-- ==== Sys2Proof/Word.lean ====
section
/-! DEFINITION. The word types of the Rabbit 2000 (`spec/00_scope.md` R7). -/

namespace Sys2Proof

/-- A byte: a byte register, a memory cell, an 8-bit operand (R7, `20_memory.md` R81). -/
abbrev Byte := BitVec 8

/-- A 16-bit word: a register pair, an index register, SP, PC, the operand `mn` (R7). -/
abbrev Word := BitVec 16

/-- A 16-bit logical address, or an address presented to an I/O space (`20_memory.md` R80). -/
abbrev Addr := BitVec 16

end Sys2Proof
end

