-- ==== Sys2Proof/Machine/Types.lean ====
section
/-! DEFINITION. The plain data types that State and Config are made of: the flags, a register bank, the registers,
I/O events, memory-mapping windows and interrupt requests. -/

namespace Sys2Proof.Machine

/-- The flag register F (`10_state.md` R40): four named flags, and the four bits of F that are no flag, whose
positions the source does not give; they are kept as stored and only `EX AF,AF'` moves them (R232). -/
structure Flags where
  /-- S, the sign flag. -/
  s : Bool
  /-- Z, the zero flag. -/
  z : Bool
  /-- L/V, the logical / overflow flag. -/
  lv : Bool
  /-- C, the carry flag ("CF"). -/
  c : Bool
  /-- The bits of F that are no flag. -/
  other : BitVec 4
deriving DecidableEq, Repr, Inhabited

/-- One bank of byte registers and flags (`10_state.md` R30, R32). -/
structure Bank where
  a : Byte
  b : Byte
  c : Byte
  d : Byte
  e : Byte
  h : Byte
  l : Byte
  f : Flags
deriving DecidableEq, Repr, Inhabited

/-- The processor's registers (`10_state.md` R30 to R40). -/
structure Cpu where
  /-- A, B, C, D, E, H, L and F. -/
  main : Bank
  /-- A', B', C', D', E', H', L' and F' (R32). -/
  alt : Bank
  ix : Word
  iy : Word
  sp : Word
  /-- PC. While an instruction executes it holds `pcn`, the address after the instruction (R36). -/
  pc : Addr
  xpc : Byte
  ip : Byte
  iir : Byte
  eir : Byte
deriving DecidableEq, Repr, Inhabited

/-- The two I/O spaces (`20_memory.md` R80, R88). -/
inductive IoSpace where
  /-- The internal I/O space, selected by the prefix IOI. -/
  | ioi
  /-- The external I/O space, selected by the prefix IOE. -/
  | ioe
deriving DecidableEq, Repr

/-- One access to an I/O space (`20_memory.md` R88). -/
inductive IoEvent where
  /-- A byte read, with the value it returned. -/
  | read (space : IoSpace) (a : Addr) (v : Byte)
  /-- A byte written. -/
  | write (space : IoSpace) (a : Addr) (v : Byte)
deriving DecidableEq, Repr

/-- One window of the parameter `Translate` (`20_memory.md` R90) as plain data: the logical addresses `first` to
`last`, under the XPC value `xpc` (or under every XPC value, where it is none), name the cells from `base` up. -/
structure MapWindow where
  xpc : Option Byte
  first : Addr
  last : Addr
  base : Nat
deriving DecidableEq, Repr

/-- The cells `first` to `last` of a launch memory that admit no write (`20_memory.md` R83). -/
structure CellRange where
  first : Nat
  last : Nat
deriving DecidableEq, Repr

/-- The priority of an interrupt request (`60_exceptions.md` R401). -/
inductive Priority where
  | p1
  | p2
  | p3
deriving DecidableEq, Repr

/-- An interrupt request: a priority and an opaque identity (`60_exceptions.md` R401). -/
structure IntRequest where
  priority : Priority
  id : Nat
deriving DecidableEq, Repr

end Sys2Proof.Machine
end

