-- ==== Sys2Proof/Syntax.lean ====
section
/-! DEFINITION. The instruction set as syntax: one constructor of `Instr` for each row of `spec/opcode_table.json`
(`30_encoding.md` R144), the operand letters of `00_scope.md` R19, and the source's entries by operand letter. -/

namespace Sys2Proof

/-- A byte register, the operand letters `r` and `g` (R19, R118). -/
inductive Reg8 where
  | a | b | c | d | e | h | l
deriving DecidableEq, Repr

/-- A word register that has an alternate: BC, DE, HL (R19, `dd'`). -/
inductive Pair where
  | bc | de | hl
deriving DecidableEq, Repr

/-- The operand letters `ss` and `dd`: BC, DE, HL, SP (R19, R119). -/
inductive SS where
  | bc | de | hl | sp
deriving DecidableEq, Repr

/-- The operand letters `xx` and `yy`: BC, DE, the index register itself, SP (R19). -/
inductive XX where
  | bc | de | self | sp
deriving DecidableEq, Repr

/-- An index register (`10_state.md` R34). -/
inductive Index where
  | ix | iy
deriving DecidableEq, Repr

/-- The operand letter `b`: a bit number 0 to 7 (R19, R120). -/
inductive BitNo where
  | b0 | b1 | b2 | b3 | b4 | b5 | b6 | b7
deriving DecidableEq, Repr

/-- The operand letter `f`: the conditions of `JP f,mn` (R19, R120). -/
inductive Cond where
  | nz | z | nc | c | lz | lo | p | m
deriving DecidableEq, Repr

/-- The operand letter `cc`: the conditions of `JR cc,e` (R19, R120). -/
inductive CondJr where
  | nz | z | nc | c
deriving DecidableEq, Repr

/-- One row of the opcode table each. `n` and `x` are 8-bit constants, `d` the displacement byte, `k` the coded byte
`e-2` of a relative jump (R124), `mn` the 16-bit constant (R121). The memory operand `(X)` is written `AtX`, the
alternate register `X'` is written `Xalt`. -/
inductive Instr where
  -- rows with an operand field (first, since Lean numbers the constructors with fields in one byte)
  | adcAAtIXd (d : Byte)
  | adcAAtIYd (d : Byte)
  | adcAn (n : Byte)
  | addAAtIXd (d : Byte)
  | addAAtIYd (d : Byte)
  | addAn (n : Byte)
  | addSPd (d : Byte)
  | andAtIXd (d : Byte)
  | andAtIYd (d : Byte)
  | andn (n : Byte)
  | bit0AtIXd (d : Byte)
  | bit1AtIXd (d : Byte)
  | bit2AtIXd (d : Byte)
  | bit3AtIXd (d : Byte)
  | bit4AtIXd (d : Byte)
  | bit5AtIXd (d : Byte)
  | bit6AtIXd (d : Byte)
  | bit7AtIXd (d : Byte)
  | bit0AtIYd (d : Byte)
  | bit1AtIYd (d : Byte)
  | bit2AtIYd (d : Byte)
  | bit3AtIYd (d : Byte)
  | bit4AtIYd (d : Byte)
  | bit5AtIYd (d : Byte)
  | bit6AtIYd (d : Byte)
  | bit7AtIYd (d : Byte)
  | callmn (mn : Word)
  | cpAtIXd (d : Byte)
  | cpAtIYd (d : Byte)
  | cpn (n : Byte)
  | decAtIXd (d : Byte)
  | decAtIYd (d : Byte)
  | djnze (k : Byte)
  | incAtIXd (d : Byte)
  | incAtIYd (d : Byte)
  | jpmn (mn : Word)
  | jpNZmn (mn : Word)
  | jpZmn (mn : Word)
  | jpNCmn (mn : Word)
  | jpCmn (mn : Word)
  | jpLZmn (mn : Word)
  | jpLOmn (mn : Word)
  | jpPmn (mn : Word)
  | jpMmn (mn : Word)
  | jrNZe (k : Byte)
  | jrZe (k : Byte)
  | jrNCe (k : Byte)
  | jrCe (k : Byte)
  | jre (k : Byte)
  | lcallxmn (x : Byte) (mn : Word)
  | ldAtHLn (n : Byte)
  | ldAtHLdHL (d : Byte)
  | ldAtIXdHL (d : Byte)
  | ldAtIXdn (d : Byte) (n : Byte)
  | ldAtIXdB (d : Byte)
  | ldAtIXdC (d : Byte)
  | ldAtIXdD (d : Byte)
  | ldAtIXdE (d : Byte)
  | ldAtIXdH (d : Byte)
  | ldAtIXdL (d : Byte)
  | ldAtIXdA (d : Byte)
  | ldAtIYdHL (d : Byte)
  | ldAtIYdn (d : Byte) (n : Byte)
  | ldAtIYdB (d : Byte)
  | ldAtIYdC (d : Byte)
  | ldAtIYdD (d : Byte)
  | ldAtIYdE (d : Byte)
  | ldAtIYdH (d : Byte)
  | ldAtIYdL (d : Byte)
  | ldAtIYdA (d : Byte)
  | ldAtmnA (mn : Word)
  | ldAtmnHL (mn : Word)
  | ldAtmnIX (mn : Word)
  | ldAtmnIY (mn : Word)
  | ldAtmnBC (mn : Word)
  | ldAtmnDE (mn : Word)
  | ldAtmnHLed (mn : Word)
  | ldAtmnSP (mn : Word)
  | ldAtSPnHL (n : Byte)
  | ldAtSPnIX (n : Byte)
  | ldAtSPnIY (n : Byte)
  | ldAAtmn (mn : Word)
  | ldBCAtmn (mn : Word)
  | ldDEAtmn (mn : Word)
  | ldSPAtmn (mn : Word)
  | ldHLAtmn (mn : Word)
  | ldBCmn (mn : Word)
  | ldDEmn (mn : Word)
  | ldHLmn (mn : Word)
  | ldSPmn (mn : Word)
  | ldHLAtHLd (d : Byte)
  | ldHLAtIXd (d : Byte)
  | ldHLAtIYd (d : Byte)
  | ldHLAtSPn (n : Byte)
  | ldIXAtmn (mn : Word)
  | ldIXAtSPn (n : Byte)
  | ldIXmn (mn : Word)
  | ldIYmn (mn : Word)
  | ldIYAtmn (mn : Word)
  | ldIYAtSPn (n : Byte)
  | ldBAtIXd (d : Byte)
  | ldCAtIXd (d : Byte)
  | ldDAtIXd (d : Byte)
  | ldEAtIXd (d : Byte)
  | ldHAtIXd (d : Byte)
  | ldLAtIXd (d : Byte)
  | ldAAtIXd (d : Byte)
  | ldBAtIYd (d : Byte)
  | ldCAtIYd (d : Byte)
  | ldDAtIYd (d : Byte)
  | ldEAtIYd (d : Byte)
  | ldHAtIYd (d : Byte)
  | ldLAtIYd (d : Byte)
  | ldAAtIYd (d : Byte)
  | ldBn (n : Byte)
  | ldCn (n : Byte)
  | ldDn (n : Byte)
  | ldEn (n : Byte)
  | ldHn (n : Byte)
  | ldLn (n : Byte)
  | ldAn (n : Byte)
  -- rows without an operand field
  | adcAAtHL
  | adcAB
  | adcAC
  | adcAD
  | adcAE
  | adcAH
  | adcAL
  | adcAA
  | adcHLBC
  | adcHLDE
  | adcHLHL
  | adcHLSP
  | addAAtHL
  | addAB
  | addAC
  | addAD
  | addAE
  | addAH
  | addAL
  | addAA
  | addHLBC
  | addHLDE
  | addHLHL
  | addHLSP
  | addIXBC
  | addIXDE
  | addIXIX
  | addIXSP
  | addIYBC
  | addIYDE
  | addIYIY
  | addIYSP
  | altd
  | andAtHL
  | andHLDE
  | andIXDE
  | andIYDE
  | andB
  | andC
  | andD
  | andE
  | andH
  | andL
  | andA
  | bit0AtHL
  | bit1AtHL
  | bit2AtHL
  | bit3AtHL
  | bit4AtHL
  | bit5AtHL
  | bit6AtHL
  | bit7AtHL
  | bit0B
  | bit0C
  | bit0D
  | bit0E
  | bit0H
  | bit0L
  | bit0A
  | bit1B
  | bit1C
  | bit1D
  | bit1E
  | bit1H
  | bit1L
  | bit1A
  | bit2B
  | bit2C
  | bit2D
  | bit2E
  | bit2H
  | bit2L
  | bit2A
  | bit3B
  | bit3C
  | bit3D
  | bit3E
  | bit3H
  | bit3L
  | bit3A
  | bit4B
  | bit4C
  | bit4D
  | bit4E
  | bit4H
  | bit4L
  | bit4A
  | bit5B
  | bit5C
  | bit5D
  | bit5E
  | bit5H
  | bit5L
  | bit5A
  | bit6B
  | bit6C
  | bit6D
  | bit6E
  | bit6H
  | bit6L
  | bit6A
  | bit7B
  | bit7C
  | bit7D
  | bit7E
  | bit7H
  | bit7L
  | bit7A
  | boolHL
  | boolIX
  | boolIY
  | ccf
  | cpAtHL
  | cpB
  | cpC
  | cpD
  | cpE
  | cpH
  | cpL
  | cpA
  | cpl
  | decAtHL
  | decIX
  | decIY
  | decB
  | decC
  | decD
  | decE
  | decH
  | decL
  | decA
  | decBC
  | decDE
  | decHL
  | decSP
  | exAtSPHL
  | exAtSPIX
  | exAtSPIY
  | exAFAFalt
  | exDEHL
  | exDEaltHL
  | exx
  | incAtHL
  | incIX
  | incIY
  | incB
  | incC
  | incD
  | incE
  | incH
  | incL
  | incA
  | incBC
  | incDE
  | incHL
  | incSP
  | ioe
  | ioi
  | ipset0
  | ipset1
  | ipset2
  | ipset3
  | ipres
  | jpAtHL
  | jpAtIX
  | jpAtIY
  | ldAtBCA
  | ldAtDEA
  | ldAtHLB
  | ldAtHLC
  | ldAtHLD
  | ldAtHLE
  | ldAtHLH
  | ldAtHLL
  | ldAtHLA
  | ldAAtBC
  | ldAAtDE
  | ldAEIR
  | ldAIIR
  | ldAXPC
  | ldBCaltBC
  | ldDEaltBC
  | ldHLaltBC
  | ldBCaltDE
  | ldDEaltDE
  | ldHLaltDE
  | ldEIRA
  | ldIIRA
  | ldHLIX
  | ldHLIY
  | ldIXHL
  | ldIYHL
  | ldBAtHL
  | ldCAtHL
  | ldDAtHL
  | ldEAtHL
  | ldHAtHL
  | ldLAtHL
  | ldAAtHL
  | ldBB
  | ldBC
  | ldBD
  | ldBE
  | ldBH
  | ldBL
  | ldBA
  | ldCB
  | ldCC
  | ldCD
  | ldCE
  | ldCH
  | ldCL
  | ldCA
  | ldDB
  | ldDC
  | ldDD
  | ldDE
  | ldDH
  | ldDL
  | ldDA
  | ldEB
  | ldEC
  | ldED
  | ldEE
  | ldEH
  | ldEL
  | ldEA
  | ldHB
  | ldHC
  | ldHD
  | ldHE
  | ldHH
  | ldHL
  | ldHA
  | ldLB
  | ldLC
  | ldLD
  | ldLE
  | ldLH
  | ldLL
  | ldLA
  | ldAB
  | ldAC
  | ldAD
  | ldAE
  | ldAH
  | ldAL
  | ldAA
  | ldSPHL
  | ldSPIX
  | ldSPIY
  | ldXPCA
  | ldd
  | lddr
  | ldi
  | ldir
deriving DecidableEq, Repr

/-- An instruction with its prefixes: the rows ALTD, IOI, IOE that stand before it, in order, and the core
(`30_encoding.md` R110, R116). -/
structure Prefixed where
  pfx : List Instr
  core : Instr
deriving DecidableEq, Repr

/-- `ADC A,r` (R154). -/
def Instr.adcAr (r : Reg8) : Instr :=
  match r with
  | .b => .adcAB
  | .c => .adcAC
  | .d => .adcAD
  | .e => .adcAE
  | .h => .adcAH
  | .l => .adcAL
  | .a => .adcAA

/-- `ADD A,r` (R160). -/
def Instr.addAr (r : Reg8) : Instr :=
  match r with
  | .b => .addAB
  | .c => .addAC
  | .d => .addAD
  | .e => .addAE
  | .h => .addAH
  | .l => .addAL
  | .a => .addAA

/-- `AND r` (R177). -/
def Instr.andr (r : Reg8) : Instr :=
  match r with
  | .b => .andB
  | .c => .andC
  | .d => .andD
  | .e => .andE
  | .h => .andH
  | .l => .andL
  | .a => .andA

/-- `CP r` (R206). -/
def Instr.cpr (r : Reg8) : Instr :=
  match r with
  | .b => .cpB
  | .c => .cpC
  | .d => .cpD
  | .e => .cpE
  | .h => .cpH
  | .l => .cpL
  | .a => .cpA

/-- `DEC r` (R225). -/
def Instr.decr (r : Reg8) : Instr :=
  match r with
  | .b => .decB
  | .c => .decC
  | .d => .decD
  | .e => .decE
  | .h => .decH
  | .l => .decL
  | .a => .decA

/-- `INC r` (R255). -/
def Instr.incr (r : Reg8) : Instr :=
  match r with
  | .b => .incB
  | .c => .incC
  | .d => .incD
  | .e => .incE
  | .h => .incH
  | .l => .incL
  | .a => .incA

/-- `LD (HL),r` (R303). -/
def Instr.ldAtHLr (r : Reg8) : Instr :=
  match r with
  | .b => .ldAtHLB
  | .c => .ldAtHLC
  | .d => .ldAtHLD
  | .e => .ldAtHLE
  | .h => .ldAtHLH
  | .l => .ldAtHLL
  | .a => .ldAtHLA

/-- `LD (IX+d),r` (R307). -/
def Instr.ldAtIXdr (r : Reg8) (d : Byte) : Instr :=
  match r with
  | .b => .ldAtIXdB d
  | .c => .ldAtIXdC d
  | .d => .ldAtIXdD d
  | .e => .ldAtIXdE d
  | .h => .ldAtIXdH d
  | .l => .ldAtIXdL d
  | .a => .ldAtIXdA d

/-- `LD (IY+d),r` (R310). -/
def Instr.ldAtIYdr (r : Reg8) (d : Byte) : Instr :=
  match r with
  | .b => .ldAtIYdB d
  | .c => .ldAtIYdC d
  | .d => .ldAtIYdD d
  | .e => .ldAtIYdE d
  | .h => .ldAtIYdH d
  | .l => .ldAtIYdL d
  | .a => .ldAtIYdA d

/-- `LD r,(HL)` (R371). -/
def Instr.ldrAtHL (r : Reg8) : Instr :=
  match r with
  | .b => .ldBAtHL
  | .c => .ldCAtHL
  | .d => .ldDAtHL
  | .e => .ldEAtHL
  | .h => .ldHAtHL
  | .l => .ldLAtHL
  | .a => .ldAAtHL

/-- `LD r,(IX+d)` (R372). -/
def Instr.ldrAtIXd (r : Reg8) (d : Byte) : Instr :=
  match r with
  | .b => .ldBAtIXd d
  | .c => .ldCAtIXd d
  | .d => .ldDAtIXd d
  | .e => .ldEAtIXd d
  | .h => .ldHAtIXd d
  | .l => .ldLAtIXd d
  | .a => .ldAAtIXd d

/-- `LD r,(IY+d)` (R373). -/
def Instr.ldrAtIYd (r : Reg8) (d : Byte) : Instr :=
  match r with
  | .b => .ldBAtIYd d
  | .c => .ldCAtIYd d
  | .d => .ldDAtIYd d
  | .e => .ldEAtIYd d
  | .h => .ldHAtIYd d
  | .l => .ldLAtIYd d
  | .a => .ldAAtIYd d

/-- `LD r,n` (R374). -/
def Instr.ldrn (r : Reg8) (n : Byte) : Instr :=
  match r with
  | .b => .ldBn n
  | .c => .ldCn n
  | .d => .ldDn n
  | .e => .ldEn n
  | .h => .ldHn n
  | .l => .ldLn n
  | .a => .ldAn n

/-- `LD r,g` (R375). -/
def Instr.ldrg (r : Reg8) (g : Reg8) : Instr :=
  match r, g with
  | .b, .b => .ldBB
  | .b, .c => .ldBC
  | .b, .d => .ldBD
  | .b, .e => .ldBE
  | .b, .h => .ldBH
  | .b, .l => .ldBL
  | .b, .a => .ldBA
  | .c, .b => .ldCB
  | .c, .c => .ldCC
  | .c, .d => .ldCD
  | .c, .e => .ldCE
  | .c, .h => .ldCH
  | .c, .l => .ldCL
  | .c, .a => .ldCA
  | .d, .b => .ldDB
  | .d, .c => .ldDC
  | .d, .d => .ldDD
  | .d, .e => .ldDE
  | .d, .h => .ldDH
  | .d, .l => .ldDL
  | .d, .a => .ldDA
  | .e, .b => .ldEB
  | .e, .c => .ldEC
  | .e, .d => .ldED
  | .e, .e => .ldEE
  | .e, .h => .ldEH
  | .e, .l => .ldEL
  | .e, .a => .ldEA
  | .h, .b => .ldHB
  | .h, .c => .ldHC
  | .h, .d => .ldHD
  | .h, .e => .ldHE
  | .h, .h => .ldHH
  | .h, .l => .ldHL
  | .h, .a => .ldHA
  | .l, .b => .ldLB
  | .l, .c => .ldLC
  | .l, .d => .ldLD
  | .l, .e => .ldLE
  | .l, .h => .ldLH
  | .l, .l => .ldLL
  | .l, .a => .ldLA
  | .a, .b => .ldAB
  | .a, .c => .ldAC
  | .a, .d => .ldAD
  | .a, .e => .ldAE
  | .a, .h => .ldAH
  | .a, .l => .ldAL
  | .a, .a => .ldAA

/-- `BIT b,r` (R193). -/
def Instr.bitbr (b : BitNo) (r : Reg8) : Instr :=
  match b, r with
  | .b0, .b => .bit0B
  | .b0, .c => .bit0C
  | .b0, .d => .bit0D
  | .b0, .e => .bit0E
  | .b0, .h => .bit0H
  | .b0, .l => .bit0L
  | .b0, .a => .bit0A
  | .b1, .b => .bit1B
  | .b1, .c => .bit1C
  | .b1, .d => .bit1D
  | .b1, .e => .bit1E
  | .b1, .h => .bit1H
  | .b1, .l => .bit1L
  | .b1, .a => .bit1A
  | .b2, .b => .bit2B
  | .b2, .c => .bit2C
  | .b2, .d => .bit2D
  | .b2, .e => .bit2E
  | .b2, .h => .bit2H
  | .b2, .l => .bit2L
  | .b2, .a => .bit2A
  | .b3, .b => .bit3B
  | .b3, .c => .bit3C
  | .b3, .d => .bit3D
  | .b3, .e => .bit3E
  | .b3, .h => .bit3H
  | .b3, .l => .bit3L
  | .b3, .a => .bit3A
  | .b4, .b => .bit4B
  | .b4, .c => .bit4C
  | .b4, .d => .bit4D
  | .b4, .e => .bit4E
  | .b4, .h => .bit4H
  | .b4, .l => .bit4L
  | .b4, .a => .bit4A
  | .b5, .b => .bit5B
  | .b5, .c => .bit5C
  | .b5, .d => .bit5D
  | .b5, .e => .bit5E
  | .b5, .h => .bit5H
  | .b5, .l => .bit5L
  | .b5, .a => .bit5A
  | .b6, .b => .bit6B
  | .b6, .c => .bit6C
  | .b6, .d => .bit6D
  | .b6, .e => .bit6E
  | .b6, .h => .bit6H
  | .b6, .l => .bit6L
  | .b6, .a => .bit6A
  | .b7, .b => .bit7B
  | .b7, .c => .bit7C
  | .b7, .d => .bit7D
  | .b7, .e => .bit7E
  | .b7, .h => .bit7H
  | .b7, .l => .bit7L
  | .b7, .a => .bit7A

/-- `BIT b,(HL)` (R190). -/
def Instr.bitbAtHL (b : BitNo) : Instr :=
  match b with
  | .b0 => .bit0AtHL
  | .b1 => .bit1AtHL
  | .b2 => .bit2AtHL
  | .b3 => .bit3AtHL
  | .b4 => .bit4AtHL
  | .b5 => .bit5AtHL
  | .b6 => .bit6AtHL
  | .b7 => .bit7AtHL

/-- `BIT b,(IX+d)` (R191). -/
def Instr.bitbAtIXd (b : BitNo) (d : Byte) : Instr :=
  match b with
  | .b0 => .bit0AtIXd d
  | .b1 => .bit1AtIXd d
  | .b2 => .bit2AtIXd d
  | .b3 => .bit3AtIXd d
  | .b4 => .bit4AtIXd d
  | .b5 => .bit5AtIXd d
  | .b6 => .bit6AtIXd d
  | .b7 => .bit7AtIXd d

/-- `BIT b,(IY+d)` (R192). -/
def Instr.bitbAtIYd (b : BitNo) (d : Byte) : Instr :=
  match b with
  | .b0 => .bit0AtIYd d
  | .b1 => .bit1AtIYd d
  | .b2 => .bit2AtIYd d
  | .b3 => .bit3AtIYd d
  | .b4 => .bit4AtIYd d
  | .b5 => .bit5AtIYd d
  | .b6 => .bit6AtIYd d
  | .b7 => .bit7AtIYd d

/-- `ADC HL,ss` (R155). -/
def Instr.adcHLss (ss : SS) : Instr :=
  match ss with
  | .bc => .adcHLBC
  | .de => .adcHLDE
  | .hl => .adcHLHL
  | .sp => .adcHLSP

/-- `ADD HL,ss` (R161). -/
def Instr.addHLss (ss : SS) : Instr :=
  match ss with
  | .bc => .addHLBC
  | .de => .addHLDE
  | .hl => .addHLHL
  | .sp => .addHLSP

/-- `DEC ss` (R226). -/
def Instr.decss (ss : SS) : Instr :=
  match ss with
  | .bc => .decBC
  | .de => .decDE
  | .hl => .decHL
  | .sp => .decSP

/-- `INC ss` (R256). -/
def Instr.incss (ss : SS) : Instr :=
  match ss with
  | .bc => .incBC
  | .de => .incDE
  | .hl => .incHL
  | .sp => .incSP

/-- `LD (mn),ss`, the encodings of the ED page (R315). -/
def Instr.ldAtmnss (ss : SS) (mn : Word) : Instr :=
  match ss with
  | .bc => .ldAtmnBC mn
  | .de => .ldAtmnDE mn
  | .hl => .ldAtmnHLed mn
  | .sp => .ldAtmnSP mn

/-- `LD dd,(mn)` (R346; for HL the row of R347). -/
def Instr.ldddAtmn (ss : SS) (mn : Word) : Instr :=
  match ss with
  | .bc => .ldBCAtmn mn
  | .de => .ldDEAtmn mn
  | .hl => .ldHLAtmn mn
  | .sp => .ldSPAtmn mn

/-- `LD dd,mn` (R354). -/
def Instr.ldddmn (ss : SS) (mn : Word) : Instr :=
  match ss with
  | .bc => .ldBCmn mn
  | .de => .ldDEmn mn
  | .hl => .ldHLmn mn
  | .sp => .ldSPmn mn

/-- `ADD IX,xx` (R162). -/
def Instr.addIXxx (xx : XX) : Instr :=
  match xx with
  | .bc => .addIXBC
  | .de => .addIXDE
  | .self => .addIXIX
  | .sp => .addIXSP

/-- `ADD IY,yy` (R163). -/
def Instr.addIYyy (xx : XX) : Instr :=
  match xx with
  | .bc => .addIYBC
  | .de => .addIYDE
  | .self => .addIYIY
  | .sp => .addIYSP

/-- `LD dd',BC` (R352). -/
def Instr.ldddaltBC (dd : Pair) : Instr :=
  match dd with
  | .bc => .ldBCaltBC
  | .de => .ldDEaltBC
  | .hl => .ldHLaltBC

/-- `LD dd',DE` (R353). -/
def Instr.ldddaltDE (dd : Pair) : Instr :=
  match dd with
  | .bc => .ldBCaltDE
  | .de => .ldDEaltDE
  | .hl => .ldHLaltDE

/-- `JP f,mn` (R284). -/
def Instr.jpfmn (f : Cond) (mn : Word) : Instr :=
  match f with
  | .nz => .jpNZmn mn
  | .z => .jpZmn mn
  | .nc => .jpNCmn mn
  | .c => .jpCmn mn
  | .lz => .jpLZmn mn
  | .lo => .jpLOmn mn
  | .p => .jpPmn mn
  | .m => .jpMmn mn

/-- `JR cc,e` (R285). -/
def Instr.jrcce (cc : CondJr) (k : Byte) : Instr :=
  match cc with
  | .nz => .jrNZe k
  | .z => .jrZe k
  | .nc => .jrNCe k
  | .c => .jrCe k

end Sys2Proof
end

