-- ==== Sys2Proof/Machine/State.lean ====
section
/-! DEFINITION. The machine's state as plain data, the ways a step can stop, and the state after reset. -/

namespace Sys2Proof.Machine

/-- Memory: the cells that hold a byte, by rising cell number, each at most once (`20_memory.md` R80, R81). A cell that
is not listed holds no value (log 3). Cells are what `Translate` names (R90). -/
abbrev Memory := List Host.Cell

/-- The one canonical form of a memory: cell numbers strictly rising. -/
abbrev Memory.wf (m : Memory) : Prop := m.Pairwise (fun x y => x.1 < y.1)

/-- The state of the Rabbit 2000. -/
structure State where
  /-- The registers (`10_state.md` R30 to R40). -/
  cpu : Cpu
  /-- The memory cells. -/
  mem : Memory
  /-- The parameter `Translate` as data; the first window that holds an address maps it, and an address no window holds
  is the cell of its own number (`20_memory.md` R90). No instruction changes it; interrupt entry may. Log 4. -/
  mapping : List MapWindow
  /-- The cells that admit no write: "the launch memory of the model decides which writes it admits" (`20_memory.md`
  R83). No instruction changes it; interrupt entry may. Log 5. -/
  readOnly : List CellRange
  /-- The I/O events so far, oldest first (`20_memory.md` R88). Log 6. -/
  ioTrace : List IoEvent
  /-- The I/O-bug latch `iobug` (R58): the I/O prefix the previous instruction carried. -/
  ioBug : Option IoSpace
  /-- Instruction context (`00_scope.md` R13): does an ALTD prefix stand before the opcode? False between instructions
  (R55). -/
  altd : Bool
  /-- Instruction context (R13): the I/O prefix before the opcode. None between instructions (R55). -/
  io : Option IoSpace
  /-- Instruction context (R13): the address of the instruction's first byte, prefixes counted. Between instructions,
  the address of the next one. -/
  pc0 : Addr
  /-- The answers of `IntRequest` still to come: for each boundary at which `60_exceptions.md` R403 asks, the requests
  then pending; none once the list is used up. Log 7. -/
  intRequests : List (List IntRequest)
deriving DecidableEq, Repr, Inhabited

/-- Why the machine stops with a fault. -/
inductive Fault where
  /-- A fetch or a data read of a logical address whose memory cell holds no value: nothing fixed or wrote it
  (`93_implementation_defined.md` U6, R441). Raised by `memRead`'s callers. Safe. -/
  | unwrittenCell (a : Addr)
deriving DecidableEq, Repr

/-- Why the machine gives an instruction no meaning. -/
inductive Refusal where
  /-- The instruction of this mnemonic has no meaning in the model yet. Raised by an arm of `exec` alone. Safe. -/
  | notModelled (mnemonic : String)
  /-- "Encoding not in source": the bytes match no row of the opcode table (`30_encoding.md` R131). Raised by `step`.
  Safe. -/
  | encodingNotInSource
  /-- Two ALTD, two I/O prefixes, or IOI with IOE, before one opcode (R115). Raised by `step`. Safe. -/
  | badPrefixes
  /-- "LCALL target outside E000-FFFF" (`44_jp_jr_lcall.md` R292). Raised by LCALL. Safe. -/
  | lcallTarget (mn : Addr)
  /-- An ALTD-prefixed member of the twelve one-byte `(HL)` instructions while the I/O-bug latch is set
  (`43_inc_io_ip.md` R260). Raised by those instructions. Safe. -/
  | altdAfterIo
deriving DecidableEq, Repr

/-- The outcome of a step or of an instruction. -/
abbrev Out := Host.Outcome State Fault Refusal

/-- The outcome of an access that answers a value in a next state. -/
abbrev Access (α : Type) := Host.Outcome (α × State) Fault Refusal

/-- A bank of registers at the values the model names for reset: the source gives none (R65). DESIGN CHOICE, log 1. -/
def Bank.reset : Bank :=
  { a := 0, b := 0, c := 0, d := 0, e := 0, h := 0, l := 0,
    f := { s := false, z := false, lv := false, c := false, other := 0 } }

/-- The registers at reset: the source gives no value (R65, R440). PC, XPC and IP: PRESUMED, the values
`93_implementation_defined.md` G6 reports for the part, log 2; the others: DESIGN CHOICE, log 1. -/
def Cpu.reset : Cpu :=
  { main := Bank.reset, alt := Bank.reset, ix := 0, iy := 0, sp := 0, pc := 0, xpc := 0, ip := 0xFF, iir := 0, eir := 0 }

/-- The machine right after reset. `iobug` is none (R65); memory holds nothing (log 3), the mapping is flat (log 4),
every cell admits writes (log 5), no I/O event has happened (log 6) and no interrupt will be requested (R401's default,
log 7). -/
def State.reset : State :=
  { cpu := Cpu.reset, mem := [], mapping := [], readOnly := [], ioTrace := [], ioBug := none, altd := false,
    io := none, pc0 := Cpu.reset.pc, intRequests := [] }

end Sys2Proof.Machine
end

