-- ==== Sys2Proof/Config.lean ====
section
/-! DEFINITION. What the spec leaves to the implementation or the platform and gives no value for: uninterpreted
constants without a body, so that nothing can be proved of their values (`spec/00_scope.md` R8). -/

namespace Sys2Proof

/-- The byte an I/O read returns, given the events before it (`20_memory.md` R88, decision D11). Log 6. -/
opaque Config.ioReadValue : List Machine.IoEvent → Machine.IoSpace → Addr → Byte

/-- `IntEntry : State x Request x ReturnAddr -> State` (`60_exceptions.md` R410, decision D13). Log 8. -/
opaque Config.intEntry : Machine.State → Machine.IntRequest → Addr → Machine.State

/-- "The number of I/O wait states enabled" (`70_reset_and_hazards.md` R452), used by the clock table only. Log 27. -/
opaque Config.ioWaitStates : Nat

end Sys2Proof
end

