-- ==== Sys2Proof/Machine/Bits.lean ====
section
/-! DEFINITION. Halves of words, byte order of a word, zero and sign extension (`spec/00_scope.md` R9 to R11). -/

namespace Sys2Proof.Machine

/-- `hi(v) = v[15:8]` (R11). -/
def hi (v : Word) : Byte := v.extractLsb' 8 8

/-- `lo(v) = v[7:0]` (R11). -/
def lo (v : Word) : Byte := v.extractLsb' 0 8

/-- The word `{h, l}`, `h` at the more significant end (R9). -/
def word (h l : Byte) : Word := h ++ l

/-- `zext_16` of a byte (R10). -/
def zext16 (v : Byte) : Word := v.setWidth 16

/-- `sext_16` of a byte (R10). -/
def sext16 (v : Byte) : Word := v.signExtend 16

end Sys2Proof.Machine
end

