-- ==== Sys2Proof/Machine/Flags.lean ====
section
/-! DEFINITION. Flag computations, the arithmetic primitives that make them, and the conditions that read them
(`spec/10_state.md` R41 to R53). The formulas are the spec's, from general knowledge: PRESUMED, log 11. -/

namespace Sys2Proof.Machine

/-- The flags an instruction writes: a flag that is none keeps its value (`00_scope.md` R14 `setflags`). -/
structure FlagWrite where
  s : Option Bool := none
  z : Option Bool := none
  lv : Option Bool := none
  c : Option Bool := none
deriving DecidableEq, Repr

/-- Write the named flags (R14); the others and the bits that are no flag stay. -/
def Flags.write (f : Flags) (w : FlagWrite) : Flags :=
  { s := w.s.getD f.s, z := w.z.getD f.z, lv := w.lv.getD f.lv, c := w.c.getD f.c, other := f.other }

/-- `add8` (R43). -/
def add8 (a b : Byte) (cin : Bool) : Byte × FlagWrite :=
  let t : BitVec 9 := a.setWidth 9 + b.setWidth 9 + (BitVec.ofBool cin).setWidth 9
  let r : Byte := t.setWidth 8
  (r, { s := some r.msb, z := some (r == 0), lv := some (a.msb == b.msb && r.msb != a.msb), c := some t.msb })

/-- `sub8`, whose result `CP` discards (R44). -/
def sub8 (a b : Byte) : Byte × FlagWrite :=
  let t : BitVec 9 := a.setWidth 9 - b.setWidth 9
  let r : Byte := t.setWidth 8
  (r, { s := some r.msb, z := some (r == 0), lv := some (a.msb != b.msb && r.msb != a.msb), c := some t.msb })

/-- `inc8` (R45): C is not written. -/
def inc8 (a : Byte) : Byte × FlagWrite :=
  let r := a + 1
  (r, { s := some r.msb, z := some (r == 0), lv := some (a == 0x7F#8) })

/-- `dec8` (R45): C is not written. -/
def dec8 (a : Byte) : Byte × FlagWrite :=
  let r := a - 1
  (r, { s := some r.msb, z := some (r == 0), lv := some (a == 0x80#8) })

/-- The configuration function `L_of8` (R46, decision D19). PRESUMED, log 11. -/
def lOf8 (r : Byte) : Bool := r.extractLsb' 4 4 != 0

/-- The configuration function `L_of16` (R46, decision D19). PRESUMED, log 11. -/
def lOf16 (r : Word) : Bool := r.extractLsb' 12 4 != 0

/-- `and8` (R46). -/
def and8 (a b : Byte) : Byte × FlagWrite :=
  let r := a &&& b
  (r, { s := some r.msb, z := some (r == 0), lv := some (lOf8 r), c := some false })

/-- `and16` (R46). -/
def and16 (a b : Word) : Word × FlagWrite :=
  let r := a &&& b
  (r, { s := some r.msb, z := some (r == 0), lv := some (lOf16 r), c := some false })

/-- `add16c` (R47): S, Z and L/V are not written. -/
def add16c (a b : Word) : Word × FlagWrite :=
  let t : BitVec 17 := a.setWidth 17 + b.setWidth 17
  (t.setWidth 16, { c := some t.msb })

/-- `adc16` (R48). -/
def adc16 (a b : Word) (cin : Bool) : Word × FlagWrite :=
  let t : BitVec 17 := a.setWidth 17 + b.setWidth 17 + (BitVec.ofBool cin).setWidth 17
  let r : Word := t.setWidth 16
  (r, { s := some r.msb, z := some (r == 0), lv := some (a.msb == b.msb && r.msb != a.msb), c := some t.msb })

/-- The configuration function `AddSpCarry` (R49, decision D4). DESIGN CHOICE, log 12. -/
def addSpCarry (sp : Word) (d : Byte) : Bool := (sp.setWidth 17 + (sext16 d).setWidth 17 : BitVec 17).msb

/-- `bool16` (R50). -/
def bool16 (a : Word) : Word × FlagWrite :=
  let r : Word := if a != 0 then 1 else 0
  (r, { s := some r.msb, z := some (a == 0), lv := some false, c := some false })

/-- The bit number an operand `b` names (`30_encoding.md` R120). -/
def bitIndex : BitNo → Nat
  | .b0 => 0
  | .b1 => 1
  | .b2 => 2
  | .b3 => 3
  | .b4 => 4
  | .b5 => 5
  | .b6 => 6
  | .b7 => 7

/-- `bittest` (R51). -/
def bittest (v : Byte) (b : BitNo) : FlagWrite := { z := some (v.getLsbD (bitIndex b) == false) }

/-- The flags of `LD A,EIR` and `LD A,IIR` (R52). DEDUCED, log 33. -/
def loadFlags (v : Byte) : FlagWrite := { s := some v.msb, z := some (v == 0) }

/-- The flag of a block move, from the new BC (R53). -/
def blockFlags (bc : Word) : FlagWrite := { lv := some (bc != 0) }

/-- The conditions of `JP f,mn` (R41). -/
def Flags.cond (f : Flags) : Cond → Bool
  | .nz => !f.z
  | .z => f.z
  | .nc => !f.c
  | .c => f.c
  | .lz => !f.lv
  | .lo => f.lv
  | .p => !f.s
  | .m => f.s

/-- The conditions of `JR cc,e` (R41). -/
def Flags.condJr (f : Flags) : CondJr → Bool
  | .nz => f.cond .nz
  | .z => f.cond .z
  | .nc => f.cond .nc
  | .c => f.cond .c

end Sys2Proof.Machine
end

