-- ==== Sys2Proof/Machine/Ops.lean ====
section
/-! DEFINITION. The named operations over registers, memory and the I/O spaces, the end of an instruction, and taking an
interrupt. -/

namespace Sys2Proof.Machine

/-! ## Registers and flags (`00_scope.md` R11, R14, `10_state.md` R30 to R37) -/

/-- The byte register `r` of a bank (R118). -/
def Bank.get8 (k : Bank) : Reg8 → Byte
  | .a => k.a
  | .b => k.b
  | .c => k.c
  | .d => k.d
  | .e => k.e
  | .h => k.h
  | .l => k.l

/-- Write the byte register `r` of a bank. -/
def Bank.set8 (k : Bank) (r : Reg8) (v : Byte) : Bank :=
  match r with
  | .a => { k with a := v }
  | .b => { k with b := v }
  | .c => { k with c := v }
  | .d => { k with d := v }
  | .e => { k with e := v }
  | .h => { k with h := v }
  | .l => { k with l := v }

/-- A pair is the concatenation of its halves (R11, R31). -/
def Bank.get16 (k : Bank) : Pair → Word
  | .bc => word k.b k.c
  | .de => word k.d k.e
  | .hl => word k.h k.l

/-- Writing a pair writes both halves (R11, R31). -/
def Bank.set16 (k : Bank) (q : Pair) (v : Word) : Bank :=
  match q with
  | .bc => { k with b := hi v, c := lo v }
  | .de => { k with d := hi v, e := lo v }
  | .hl => { k with h := hi v, l := lo v }

/-- Change the bank a destination goes to: the alternate one under ALTD (R14, R168). -/
def Cpu.onBank (c : Cpu) (altd : Bool) (g : Bank → Bank) : Cpu :=
  match altd with
  | true => { c with alt := g c.alt }
  | false => { c with main := g c.main }

/-- Read a byte register: sources are always the main registers (R14). -/
def State.reg8 (s : State) (r : Reg8) : Byte := s.cpu.main.get8 r

/-- Read BC, DE or HL. -/
def State.pair (s : State) (q : Pair) : Word := s.cpu.main.get16 q

/-- Read IX or IY (R34). -/
def State.idx (s : State) : Index → Word
  | .ix => s.cpu.ix
  | .iy => s.cpu.iy

/-- Change the main bank. -/
def State.onMain (s : State) (g : Bank → Bank) : State := { s with cpu := s.cpu.onBank false g }

/-- Change the alternate bank. -/
def State.onAlt (s : State) (g : Bank → Bank) : State := { s with cpu := s.cpu.onBank true g }

/-- `dst8` (R14): the register, or its alternate under ALTD. -/
def State.dst8 (s : State) (r : Reg8) (v : Byte) : State :=
  { s with cpu := s.cpu.onBank s.altd (fun k => k.set8 r v) }

/-- `dst16` (R14): the pair, or its alternate under ALTD. -/
def State.dst16 (s : State) (q : Pair) (v : Word) : State :=
  { s with cpu := s.cpu.onBank s.altd (fun k => k.set16 q v) }

/-- `setflags` (R14): the named flags of F, or of F' under ALTD. -/
def State.setFlags (s : State) (w : FlagWrite) : State :=
  { s with cpu := s.cpu.onBank s.altd (fun k => { k with f := k.f.write w }) }

/-- Write IX or IY, which have no alternate (R34). -/
def State.setIdx (s : State) (i : Index) (v : Word) : State :=
  match i with
  | .ix => { s with cpu := { s.cpu with ix := v } }
  | .iy => { s with cpu := { s.cpu with iy := v } }

/-- Write SP, which has no alternate (R35). -/
def State.setSp (s : State) (v : Word) : State := { s with cpu := { s.cpu with sp := v } }

/-- `pc <- t` (R16). -/
def State.setPc (s : State) (v : Addr) : State := { s with cpu := { s.cpu with pc := v } }

/-- Write XPC (R37). -/
def State.setXpc (s : State) (v : Byte) : State := { s with cpu := { s.cpu with xpc := v } }

/-- Write IP (R38). -/
def State.setIp (s : State) (v : Byte) : State := { s with cpu := { s.cpu with ip := v } }

/-- Write IIR (R39). -/
def State.setIir (s : State) (v : Byte) : State := { s with cpu := { s.cpu with iir := v } }

/-- Write EIR (R39). -/
def State.setEir (s : State) (v : Byte) : State := { s with cpu := { s.cpu with eir := v } }

/-! ## Memory (`20_memory.md` R80 to R92) -/

/-- The byte a cell holds, if it holds one. -/
def Memory.read : Memory → Nat → Option Byte
  | [], _ => none
  | (k, v) :: t, c => if c = k then some v else Memory.read t c

/-- Store a byte in a cell, keeping the cells in rising order. -/
def Memory.write : Memory → Nat → Byte → Memory
  | [], c, v => [(c, v)]
  | (k, w) :: t, c, v =>
    if c < k then (c, v) :: (k, w) :: t
    else if c = k then (c, v) :: t
    else (k, w) :: Memory.write t c v

/-- The memory in canonical form that holds the same byte in every cell (the first entry for a cell counts). -/
def Memory.canonical : Memory → Memory
  | [] => []
  | (k, v) :: t => Memory.write (Memory.canonical t) k v

/-- Does a window map this address under this XPC? -/
def MapWindow.holds (w : MapWindow) (xpc : Byte) (a : Addr) : Bool :=
  (w.xpc == none || w.xpc == some xpc) && w.first ≤ a && a ≤ w.last

/-- `Translate` (R90): the first window that holds the address; without one, the cell of the address's own number. -/
def translate : List MapWindow → Byte → Addr → Nat
  | [], _, a => a.toNat
  | w :: t, xpc, a => if w.holds xpc a then w.base + (a.toNat - w.first.toNat) else translate t xpc a

/-- The cell a logical address names now (R82). -/
def State.cell (s : State) (a : Addr) : Nat := translate s.mapping s.cpu.xpc a

/-- The byte at a logical address, if its cell holds one (R82). -/
def State.peek (s : State) (a : Addr) : Option Byte := s.mem.read (s.cell a)

/-- `MemRead(a, 1)` (R82); a cell that holds no value is a fault of the model (U6). -/
def memRead (a : Addr) (s : State) : Access Byte :=
  match s.peek a with
  | some v => .next (v, s)
  | none => .fault (.unwrittenCell a)

/-- Is the cell one of the range? -/
def CellRange.holds (r : CellRange) (c : Nat) : Bool := r.first ≤ c && c ≤ r.last

/-- Does the memory admit a write at this logical address now? The launch memory decided (R83). Log 5. -/
def State.writable (s : State) (a : Addr) : Bool := !s.readOnly.any fun r => r.holds (s.cell a)

/-- Put a byte in the cell a logical address names, whether the memory admits writes there or not: how bytes are loaded
from outside the machine (R441). -/
def State.load (s : State) (a : Addr) (v : Byte) : State := { s with mem := s.mem.write (s.cell a) v }

/-- `MemWrite(a, 1, v)` (R83). A write that the memory does not admit leaves the cell as it is: DESIGN CHOICE, log 5. -/
def memWrite (a : Addr) (v : Byte) (s : State) : State :=
  { s with mem := if s.writable a then s.mem.write (s.cell a) v else s.mem }

/-- `MemWrite(a, 2, v)` (R85): the low byte at `a`, then the high byte at `a + 1`. -/
def memWrite16 (a : Addr) (v : Word) (s : State) : State := memWrite (a + 1) (hi v) (memWrite a (lo v) s)

/-! ## The I/O spaces (R88) -/

/-- Append an event to the I/O history. -/
def ioEvent (e : IoEvent) (s : State) : State := { s with ioTrace := s.ioTrace ++ [e] }

/-- `IoRead(sp, a)` (R88): the oracle's byte; the read is an event. -/
def ioRead (sp : IoSpace) (a : Addr) (s : State) : Access Byte :=
  let v := Config.ioReadValue s.ioTrace sp a
  .next (v, ioEvent (.read sp a v) s)

/-- `IoWrite(sp, a, v)` (R88): an event. -/
def ioWrite (sp : IoSpace) (a : Addr) (v : Byte) (s : State) : State := ioEvent (.write sp a v) s

/-! ## Data accesses that a prefix can redirect (R15, R89, R260) -/

/-- Go on with the value an access answered. -/
def Access.bind {α β : Type} (x : Access α) (k : α → State → Host.Outcome β Fault Refusal) :
    Host.Outcome β Fault Refusal :=
  match x with
  | .next (v, t) => k v t
  | .fault f => .fault f
  | .refused r => .refused r

/-- Change the next state of an outcome. -/
def onNext (x : Out) (k : State → State) : Out :=
  match x with
  | .next t => .next (k t)
  | .fault f => .fault f
  | .refused r => .refused r

/-- Read from an I/O space if one is given, else from memory. -/
def readFrom (sp : Option IoSpace) (a : Addr) (s : State) : Access Byte :=
  match sp with
  | some p => ioRead p a s
  | none => memRead a s

/-- Write to an I/O space if one is given, else to memory. -/
def writeTo (sp : Option IoSpace) (a : Addr) (v : Byte) (s : State) : State :=
  match sp with
  | some p => ioWrite p a v s
  | none => memWrite a v s

/-- `SrcRead` (R15). -/
def srcRead (a : Addr) (s : State) : Access Byte := readFrom s.io a s

/-- `DstWrite` (R15). -/
def dstWrite (a : Addr) (v : Byte) (s : State) : State := writeTo s.io a v s

/-- A word through two byte reads, the low byte at `a` first (R85). -/
def read16 (rd : Addr → State → Access Byte) (a : Addr) (s : State) : Access Word :=
  (rd a s).bind fun l t => (rd (a + 1) t).bind fun h u => .next (word h l, u)

/-- `DstWrite16`: the low byte at `a`, then the high byte at `a + 1` (`45_ld_store.md`, R85). -/
def dstWrite16 (a : Addr) (v : Word) (s : State) : State := dstWrite (a + 1) (hi v) (dstWrite a (lo v) s)

/-- The space the twelve one-byte `(HL)` instructions access (R260): the own prefix's, else that of the previous
instruction's I/O prefix, which is the hardware bug. -/
def bugSpace (s : State) : Option IoSpace :=
  match s.io with
  | some p => some p
  | none => s.ioBug

/-- One of the twelve under ALTD while the latch is set has no meaning (R260, U5). -/
def bugRefused (s : State) : Bool := s.altd && s.ioBug.isSome

/-- `BugRead` (R260). -/
def bugRead (a : Addr) (s : State) : Access Byte :=
  if bugRefused s then .refused .altdAfterIo else readFrom (bugSpace s) a s

/-- `BugWrite` (R260). -/
def bugWrite (a : Addr) (v : Byte) (s : State) : Out :=
  if bugRefused s then .refused .altdAfterIo else .next (writeTo (bugSpace s) a v s)

/-! ## Interrupts (`60_exceptions.md` R401 to R410) -/

/-- The priority as a 2-bit number. -/
def Priority.value : Priority → BitVec 2
  | .p1 => 1
  | .p2 => 2
  | .p3 => 3

/-- The current processor priority `IP[1:0]` (R38). -/
def State.priority (s : State) : BitVec 2 := s.cpu.ip.extractLsb' 0 2

/-- Of several pending requests the one with the highest priority; among equals the first, in the order
`IntRequest` lists them (R409). -/
def pickRequest : List IntRequest → Option IntRequest
  | [] => none
  | q :: t =>
    match pickRequest t with
    | none => some q
    | some p => if q.priority.value < p.priority.value then some p else some q

/-- An I/O history after an entry that answers the history `new`: the events of `new` beyond the length of the old one
are the entry's own, and come after the old ones, which stay (`20_memory.md` R88). -/
def historyAfter (old new : List IoEvent) : List IoEvent := old ++ new.drop old.length

/-- Taking an interrupt (R410): the state is the one the parameter `IntEntry` answers for the state at the boundary, the
request and the return address, with any effect on registers, memory, mapping, I/O spaces and requests. The I/O-bug latch
is cleared (R260). What is no state of the machine to change is kept: the instruction context (R55), the I/O events that
have happened already (R88), and the canonical form of the memory's list (log 8). There is no return instruction in the
source's extent (R411): a handler returns as a subroutine does. -/
def takeInterrupt (q : IntRequest) (ret : Addr) (s : State) : State :=
  let entered := Config.intEntry s q ret
  { entered with
    mem := entered.mem.canonical
    ioTrace := historyAfter s.ioTrace entered.ioTrace
    ioBug := none
    altd := s.altd
    io := s.io
    pc0 := s.pc0 }

/-- The boundary after an instruction, or after an iteration of LDIR or LDDR (R403). Nothing is accepted after a
privileged instruction; otherwise `IntRequest` is asked once, and a request is accepted if its priority exceeds
`IP[1:0]` (R402). The return address is the PC the instruction left, which is `pc0` inside a block move (R407). -/
def interruptBoundary (privileged : Bool) (s : State) : State :=
  match privileged, s.intRequests with
  | true, _ => s
  | false, [] => s
  | false, pending :: later =>
    let s' := { s with intRequests := later }
    match pickRequest pending with
    | none => s'
    | some q => if s.priority < q.priority.value then takeInterrupt q s.cpu.pc s' else s'

/-! ## Beginning and end of an instruction (`00_scope.md` R13, `10_state.md` R55, R58) -/

/-- At an instruction's first byte: no prefix seen yet, `pc0` is where it starts, and PC is `pcn` while it executes
(R13, R36). -/
def beginInstr (length : Nat) (s : State) : State :=
  { s with cpu := { s.cpu with pc := s.cpu.pc + BitVec.ofNat 16 length }, altd := false, io := none, pc0 := s.cpu.pc }

/-- At its end: the latch takes the instruction's I/O prefix (R58), and the prefix context ends (R55). -/
def endInstr (s : State) : State := { s with ioBug := s.io, altd := false, io := none }

/-- Between instructions `pc0` is the address of the next one. -/
def settle (s : State) : State := { s with pc0 := s.cpu.pc }

end Sys2Proof.Machine
end

