-- ==== Sys2Proof/Machine/Operands.lean ====
section
/-! DEFINITION. Operand forms: word registers, effective addresses, and an operation on a value from each kind of
source (`spec/00_scope.md` R19, `40_adc_add_altd_and.md`, opening paragraphs). -/

namespace Sys2Proof.Machine

/-- Read `ss` (R19). -/
def State.ss (s : State) : SS → Word
  | .bc => s.pair .bc
  | .de => s.pair .de
  | .hl => s.pair .hl
  | .sp => s.cpu.sp

/-- Write `dd` or `ss`: BC, DE, HL through `dst16`; SP has no alternate (R14, R169). -/
def State.setSS (s : State) (r : SS) (v : Word) : State :=
  match r with
  | .bc => s.dst16 .bc v
  | .de => s.dst16 .de v
  | .hl => s.dst16 .hl v
  | .sp => s.setSp v

/-- Read `xx` of `ADD IX,xx`, `yy` of `ADD IY,yy` (R19). -/
def State.xx (s : State) (i : Index) : XX → Word
  | .bc => s.pair .bc
  | .de => s.pair .de
  | .self => s.idx i
  | .sp => s.cpu.sp

/-- `ea_hl`. -/
def eaHL (s : State) : Addr := s.pair .hl

/-- `ea_ix`, `ea_iy`: the index register plus the sign-extended displacement, modulo 2^16 (R123, R92). -/
def eaIdx (i : Index) (d : Byte) (s : State) : Addr := s.idx i + sext16 d

/-- `HL + sext_16(d)` (R304, R357). -/
def eaHLd (d : Byte) (s : State) : Addr := s.pair .hl + sext16 d

/-- `SP + zext_16(n)` (R122). -/
def eaSP (n : Byte) (s : State) : Addr := s.cpu.sp + zext16 n

/-! An operation `k` takes the operand's value and the state after the operand was read. -/

/-- The operand is a byte register. -/
def onReg (r : Reg8) (k : Byte → State → State) (s : State) : Out := .next (k (s.reg8 r) s)

/-- The operand is the constant `n`. -/
def onImm (n : Byte) (k : Byte → State → State) (s : State) : Out := .next (k n s)

/-- The operand is `(HL)` of one of the twelve one-byte instructions, subject to the I/O-prefix bug (R260). -/
def onAtHLBug (k : Byte → State → State) (s : State) : Out :=
  (bugRead (eaHL s) s).bind fun v t => .next (k v t)

/-- The operand is the byte at an address, read through `SrcRead` (R15). -/
def onAt (a : Addr) (k : Byte → State → State) (s : State) : Out :=
  (srcRead a s).bind fun v t => .next (k v t)

/-- The operand is `(IX+d)` or `(IY+d)`. -/
def onAtIdx (i : Index) (d : Byte) (k : Byte → State → State) (s : State) : Out := onAt (eaIdx i d s) k s

/-- The operand is the word at an address, read through `SrcRead16` (`46_ld_load.md`). -/
def onAt16 (a : Addr) (k : Word → State → State) (s : State) : Out :=
  (read16 srcRead a s).bind fun v t => .next (k v t)

/-- The operand is the word at `SP + n`, which no prefix redirects (R89). -/
def onAtSP16 (n : Byte) (k : Word → State → State) (s : State) : Out :=
  (read16 memRead (eaSP n s) s).bind fun v t => .next (k v t)

end Sys2Proof.Machine
end

