-- ==== Sys2Proof/Machine/Arith.lean ====
section
/-! DEFINITION. ADC and ADD (`spec/40_adc_add_altd_and.md` R150 to R164). -/

namespace Sys2Proof.Machine

/-- `A + v + CF` to the Accumulator, with its flags (R150 to R154). -/
def adcA (v : Byte) (s : State) : State :=
  let p := add8 s.cpu.main.a v s.cpu.main.f.c
  (s.dst8 .a p.1).setFlags p.2

/-- `A + v` to the Accumulator, with its flags (R156 to R160). -/
def addA (v : Byte) (s : State) : State :=
  let p := add8 s.cpu.main.a v false
  (s.dst8 .a p.1).setFlags p.2

/-- `HL + v + CF` to HL, with its flags (R155). -/
def adcHL (v : Word) (s : State) : State :=
  let p := adc16 (s.pair .hl) v s.cpu.main.f.c
  (s.dst16 .hl p.1).setFlags p.2

/-- `HL + v` to HL, with C (R161). -/
def addHL (v : Word) (s : State) : State :=
  let p := add16c (s.pair .hl) v
  (s.dst16 .hl p.1).setFlags p.2

/-- `IX + v` to IX, or `IY + v` to IY, with C; the index register has no alternate (R162, R163). -/
def addIdx (i : Index) (v : Word) (s : State) : State :=
  let p := add16c (s.idx i) v
  (s.setIdx i p.1).setFlags p.2

/-- `SP + d` to SP, with C (R164, R49). -/
def addSp (d : Byte) (s : State) : State :=
  (s.setSp (s.cpu.sp + sext16 d)).setFlags { c := some (addSpCarry s.cpu.sp d) }

/-- `ADC A,(HL)` (R150). -/
def execAdcAAtHL (s : State) : Out := onAtHLBug adcA s

/-- `ADC A,(IX+d)` (R151). -/
def execAdcAAtIXd (d : Byte) (s : State) : Out := onAtIdx .ix d adcA s

/-- `ADC A,(IY+d)` (R152). -/
def execAdcAAtIYd (d : Byte) (s : State) : Out := onAtIdx .iy d adcA s

/-- `ADC A,n` (R153). -/
def execAdcAn (n : Byte) (s : State) : Out := onImm n adcA s

/-- `ADC A,B` (R154). -/
def execAdcAB (s : State) : Out := onReg .b adcA s

/-- `ADC A,C` (R154). -/
def execAdcAC (s : State) : Out := onReg .c adcA s

/-- `ADC A,D` (R154). -/
def execAdcAD (s : State) : Out := onReg .d adcA s

/-- `ADC A,E` (R154). -/
def execAdcAE (s : State) : Out := onReg .e adcA s

/-- `ADC A,H` (R154). -/
def execAdcAH (s : State) : Out := onReg .h adcA s

/-- `ADC A,L` (R154). -/
def execAdcAL (s : State) : Out := onReg .l adcA s

/-- `ADC A,A` (R154). -/
def execAdcAA (s : State) : Out := onReg .a adcA s

/-- `ADC HL,BC` (R155). -/
def execAdcHLBC (s : State) : Out := .next (adcHL (s.ss .bc) s)

/-- `ADC HL,DE` (R155). -/
def execAdcHLDE (s : State) : Out := .next (adcHL (s.ss .de) s)

/-- `ADC HL,HL` (R155). -/
def execAdcHLHL (s : State) : Out := .next (adcHL (s.ss .hl) s)

/-- `ADC HL,SP` (R155). -/
def execAdcHLSP (s : State) : Out := .next (adcHL (s.ss .sp) s)

/-- `ADD A,(HL)` (R156). -/
def execAddAAtHL (s : State) : Out := onAtHLBug addA s

/-- `ADD A,(IX+d)` (R157). -/
def execAddAAtIXd (d : Byte) (s : State) : Out := onAtIdx .ix d addA s

/-- `ADD A,(IY+d)` (R158). -/
def execAddAAtIYd (d : Byte) (s : State) : Out := onAtIdx .iy d addA s

/-- `ADD A,n` (R159). -/
def execAddAn (n : Byte) (s : State) : Out := onImm n addA s

/-- `ADD A,B` (R160). -/
def execAddAB (s : State) : Out := onReg .b addA s

/-- `ADD A,C` (R160). -/
def execAddAC (s : State) : Out := onReg .c addA s

/-- `ADD A,D` (R160). -/
def execAddAD (s : State) : Out := onReg .d addA s

/-- `ADD A,E` (R160). -/
def execAddAE (s : State) : Out := onReg .e addA s

/-- `ADD A,H` (R160). -/
def execAddAH (s : State) : Out := onReg .h addA s

/-- `ADD A,L` (R160). -/
def execAddAL (s : State) : Out := onReg .l addA s

/-- `ADD A,A` (R160). -/
def execAddAA (s : State) : Out := onReg .a addA s

/-- `ADD HL,BC` (R161). -/
def execAddHLBC (s : State) : Out := .next (addHL (s.ss .bc) s)

/-- `ADD HL,DE` (R161). -/
def execAddHLDE (s : State) : Out := .next (addHL (s.ss .de) s)

/-- `ADD HL,HL` (R161). -/
def execAddHLHL (s : State) : Out := .next (addHL (s.ss .hl) s)

/-- `ADD HL,SP` (R161). -/
def execAddHLSP (s : State) : Out := .next (addHL (s.ss .sp) s)

/-- `ADD IX,BC` (R162). -/
def execAddIXBC (s : State) : Out := .next (addIdx .ix (s.xx .ix .bc) s)

/-- `ADD IX,DE` (R162). -/
def execAddIXDE (s : State) : Out := .next (addIdx .ix (s.xx .ix .de) s)

/-- `ADD IX,IX` (R162). -/
def execAddIXIX (s : State) : Out := .next (addIdx .ix (s.xx .ix .self) s)

/-- `ADD IX,SP` (R162). -/
def execAddIXSP (s : State) : Out := .next (addIdx .ix (s.xx .ix .sp) s)

/-- `ADD IY,BC` (R163). -/
def execAddIYBC (s : State) : Out := .next (addIdx .iy (s.xx .iy .bc) s)

/-- `ADD IY,DE` (R163). -/
def execAddIYDE (s : State) : Out := .next (addIdx .iy (s.xx .iy .de) s)

/-- `ADD IY,IY` (R163). -/
def execAddIYIY (s : State) : Out := .next (addIdx .iy (s.xx .iy .self) s)

/-- `ADD IY,SP` (R163). -/
def execAddIYSP (s : State) : Out := .next (addIdx .iy (s.xx .iy .sp) s)

/-- `ADD SP,d` (R164). -/
def execAddSPd (d : Byte) (s : State) : Out := .next (addSp d s)

end Sys2Proof.Machine
end

