-- ==== Sys2Proof/Machine/Block.lean ====
section
/-! DEFINITION. LDD, LDDR, LDI, LDIR (`spec/47_block_move.md` R390 to R394). -/

namespace Sys2Proof.Machine

/-- `move(dir)` (`47_block_move.md`): the source byte comes from memory, the destination is memory or I/O space; BC, DE,
HL and L/V are the main ones whatever the prefix (R169, R394). -/
def moveOne (dir : Word) (s : State) : Out :=
  (memRead (s.pair .hl) s).bind fun v t =>
    let u := dstWrite (s.pair .de) v t
    let bc := s.pair .bc - 1
    .next (u.onMain fun k =>
      let k' := ((k.set16 .bc bc).set16 .de (s.pair .de + dir)).set16 .hl (s.pair .hl + dir)
      { k' with f := k'.f.write (blockFlags bc) })

/-- LDD and LDI: one move. -/
def blockMove (dir : Word) (s : State) : Out := moveOne dir s

/-- LDDR and LDIR, one iteration a step: back to `pc0` while BC is not 0 (R391, R393, decision D23, log 20). -/
def blockRepeat (dir : Word) (s : State) : Out :=
  onNext (moveOne dir s) fun u => if u.pair .bc != 0 then u.setPc u.pc0 else u

/-- `LDD` (R390). -/
def execLdd (s : State) : Out := blockMove (-1) s

/-- `LDDR` (R391). -/
def execLddr (s : State) : Out := blockRepeat (-1) s

/-- `LDI` (R392). -/
def execLdi (s : State) : Out := blockMove 1 s

/-- `LDIR` (R393). -/
def execLdir (s : State) : Out := blockRepeat 1 s

end Sys2Proof.Machine
end

