-- ==== Sys2Proof/Machine/Control.lean ====
section
/-! DEFINITION. CALL, DJNZ, JP, JR, LCALL (`spec/41_bit_bool_call_ccf_cp_cpl.md` R200, `42_dec_djnz_ex_exx.md` R227, `44_jp_jr_lcall.md`). While an instruction executes PC is `pcn` (`10_state.md` R36). -/

namespace Sys2Proof.Machine

/-- `CALL mn`: the high byte of `pcn` at SP-1, the low byte at SP-2 (R200). -/
def call (mn : Addr) (s : State) : State :=
  let sp := s.cpu.sp
  let ret := s.cpu.pc
  ((memWrite (sp - 2) (lo ret) (memWrite (sp - 1) (hi ret) s)).setSp (sp - 2)).setPc mn

/-- The target of a relative jump: `pcn + sext_16(k)` (R124). -/
def relTarget (k : Byte) (s : State) : Addr := s.cpu.pc + sext16 k

/-- Jump if the condition holds, else go on at `pcn` (R284, R285). -/
def jumpIf (cond : Bool) (target : Addr) (s : State) : State := if cond then s.setPc target else s

/-- `DJNZ e`: the test is on the computed `B - 1` (R227). -/
def decJump (k : Byte) (s : State) : State :=
  let b1 := s.cpu.main.b - 1
  jumpIf (b1 != 0) (relTarget k s) (s.dst8 .b b1)

/-- `LCALL x,mn`: XPC, then PC high, then PC low are pushed under the old XPC; a target below E000h is refused
(R292). -/
def longCall (x : Byte) (mn : Addr) (s : State) : Out :=
  let sp := s.cpu.sp
  let ret := s.cpu.pc
  if mn < 0xE000#16 then .refused (.lcallTarget mn)
  else
    let pushed := memWrite (sp - 3) (lo ret) (memWrite (sp - 2) (hi ret) (memWrite (sp - 1) s.cpu.xpc s))
    .next (((pushed.setSp (sp - 3)).setXpc x).setPc mn)

/-- `CALL mn` (R200). -/
def execCallmn (mn : Word) (s : State) : Out := .next (call mn s)

/-- `DJNZ e` (R227). -/
def execDjnze (k : Byte) (s : State) : Out := .next (decJump k s)

/-- `JP (HL)` (R280). -/
def execJpAtHL (s : State) : Out := .next (s.setPc (s.pair .hl))

/-- `JP (IX)` (R281). -/
def execJpAtIX (s : State) : Out := .next (s.setPc (s.idx .ix))

/-- `JP (IY)` (R282). -/
def execJpAtIY (s : State) : Out := .next (s.setPc (s.idx .iy))

/-- `JP mn` (R283). -/
def execJpmn (mn : Word) (s : State) : Out := .next (s.setPc mn)

/-- `JP NZ,mn` (R284). -/
def execJpNZmn (mn : Word) (s : State) : Out := .next (jumpIf (s.cpu.main.f.cond .nz) mn s)

/-- `JP Z,mn` (R284). -/
def execJpZmn (mn : Word) (s : State) : Out := .next (jumpIf (s.cpu.main.f.cond .z) mn s)

/-- `JP NC,mn` (R284). -/
def execJpNCmn (mn : Word) (s : State) : Out := .next (jumpIf (s.cpu.main.f.cond .nc) mn s)

/-- `JP C,mn` (R284). -/
def execJpCmn (mn : Word) (s : State) : Out := .next (jumpIf (s.cpu.main.f.cond .c) mn s)

/-- `JP LZ,mn` (R284). -/
def execJpLZmn (mn : Word) (s : State) : Out := .next (jumpIf (s.cpu.main.f.cond .lz) mn s)

/-- `JP LO,mn` (R284). -/
def execJpLOmn (mn : Word) (s : State) : Out := .next (jumpIf (s.cpu.main.f.cond .lo) mn s)

/-- `JP P,mn` (R284). -/
def execJpPmn (mn : Word) (s : State) : Out := .next (jumpIf (s.cpu.main.f.cond .p) mn s)

/-- `JP M,mn` (R284). -/
def execJpMmn (mn : Word) (s : State) : Out := .next (jumpIf (s.cpu.main.f.cond .m) mn s)

/-- `JR NZ,e` (R285). -/
def execJrNZe (k : Byte) (s : State) : Out := .next (jumpIf (s.cpu.main.f.condJr .nz) (relTarget k s) s)

/-- `JR Z,e` (R285). -/
def execJrZe (k : Byte) (s : State) : Out := .next (jumpIf (s.cpu.main.f.condJr .z) (relTarget k s) s)

/-- `JR NC,e` (R285). -/
def execJrNCe (k : Byte) (s : State) : Out := .next (jumpIf (s.cpu.main.f.condJr .nc) (relTarget k s) s)

/-- `JR C,e` (R285). -/
def execJrCe (k : Byte) (s : State) : Out := .next (jumpIf (s.cpu.main.f.condJr .c) (relTarget k s) s)

/-- `JR e` (R286). -/
def execJre (k : Byte) (s : State) : Out := .next (s.setPc (relTarget k s))

/-- `LCALL x,mn` (R292). -/
def execLcallxmn (x : Byte) (mn : Word) (s : State) : Out := longCall x mn s

end Sys2Proof.Machine
end

