-- ==== Sys2Proof/Machine/Exchange.lean ====
section
/-! DEFINITION. EX and EXX (`spec/42_dec_djnz_ex_exx.md` R228 to R235). -/

namespace Sys2Proof.Machine

/-- `EX (SP),..`: two byte reads, then two byte writes of `v`, then the word read goes to its destination (R228 to
R230). -/
def exAtSP (v : Word) (k : Word → State → State) (s : State) : Out :=
  (read16 memRead s.cpu.sp s).bind fun w t => .next (k w (memWrite16 s.cpu.sp v t))

/-- `AF <-> AF'`, all of F (R232). -/
def exchangeAF (s : State) : State :=
  let m := s.cpu.main
  let p := s.cpu.alt
  { s with cpu := { s.cpu with main := { m with a := p.a, f := p.f }, alt := { p with a := m.a, f := m.f } } }

/-- `EX DE,HL` (R233) and, for the alternate DE, `EX DE',HL` (R234); under ALTD the partner is HL'. -/
def exchangeHL (altDe : Bool) (s : State) : State :=
  let m := s.cpu.main
  let p := s.cpu.alt
  match altDe, s.altd with
  | false, false => s.onMain fun k => (k.set16 .de (m.get16 .hl)).set16 .hl (m.get16 .de)
  | false, true => (s.onMain fun k => k.set16 .de (p.get16 .hl)).onAlt fun k => k.set16 .hl (m.get16 .de)
  | true, false => (s.onAlt fun k => k.set16 .de (m.get16 .hl)).onMain fun k => k.set16 .hl (p.get16 .de)
  | true, true => s.onAlt fun k => (k.set16 .de (p.get16 .hl)).set16 .hl (p.get16 .de)

/-- `EXX`: BC, DE, HL with BC', DE', HL' (R235). -/
def exchangeBanks (s : State) : State :=
  let m := s.cpu.main
  let p := s.cpu.alt
  { s with cpu := { s.cpu with
      main := { p with a := m.a, f := m.f }
      alt := { m with a := p.a, f := p.f } } }

/-- `EX (SP),HL` (R228). -/
def execExAtSPHL (s : State) : Out := exAtSP (s.pair .hl) (fun w t => t.dst16 .hl w) s

/-- `EX (SP),IX` (R229). -/
def execExAtSPIX (s : State) : Out := exAtSP (s.idx .ix) (fun w t => t.setIdx .ix w) s

/-- `EX (SP),IY` (R230). -/
def execExAtSPIY (s : State) : Out := exAtSP (s.idx .iy) (fun w t => t.setIdx .iy w) s

/-- `EX AF,AF'` (R232). -/
def execExAFAFalt (s : State) : Out := .next (exchangeAF s)

/-- `EX DE,HL` (R233). -/
def execExDEHL (s : State) : Out := .next (exchangeHL false s)

/-- `EX DE',HL` (R234). -/
def execExDEaltHL (s : State) : Out := .next (exchangeHL true s)

/-- `EXX` (R235). -/
def execExx (s : State) : Out := .next (exchangeBanks s)

end Sys2Proof.Machine
end

