-- ==== Sys2Proof/Machine/IncDec.lean ====
section
/-! DEFINITION. DEC and INC (`spec/42_dec_djnz_ex_exx.md` R220 to R226, `43_inc_io_ip.md` R250 to R256). -/

namespace Sys2Proof.Machine

/-- `INC r` and `DEC r`: the result and its flags (R225, R255). -/
def stepReg (r : Reg8) (f : Byte → Byte × FlagWrite) (s : State) : State :=
  let p := f (s.reg8 r)
  (s.dst8 r p.1).setFlags p.2

/-- `INC (HL)` and `DEC (HL)`: read, then write, subject to the I/O-prefix bug (R220, R250). -/
def stepAtHL (f : Byte → Byte × FlagWrite) (s : State) : Out :=
  (bugRead (eaHL s) s).bind fun v t =>
    onNext (bugWrite (eaHL s) (f v).1 t) fun u => u.setFlags (f v).2

/-- `INC (IX+d)`, `DEC (IX+d)` and the IY forms: read, then write (R221, R222, R251, R252). -/
def stepAtIdx (i : Index) (d : Byte) (f : Byte → Byte × FlagWrite) (s : State) : Out :=
  (srcRead (eaIdx i d s) s).bind fun v t =>
    .next ((dstWrite (eaIdx i d s) (f v).1 t).setFlags (f v).2)

/-- `DEC (HL)` (R220). -/
def execDecAtHL (s : State) : Out := stepAtHL dec8 s

/-- `DEC (IX+d)` (R221). -/
def execDecAtIXd (d : Byte) (s : State) : Out := stepAtIdx .ix d dec8 s

/-- `DEC (IY+d)` (R222). -/
def execDecAtIYd (d : Byte) (s : State) : Out := stepAtIdx .iy d dec8 s

/-- `DEC IX` (R223). -/
def execDecIX (s : State) : Out := .next (s.setIdx .ix (s.idx .ix - 1))

/-- `DEC IY` (R224). -/
def execDecIY (s : State) : Out := .next (s.setIdx .iy (s.idx .iy - 1))

/-- `DEC B` (R225). -/
def execDecB (s : State) : Out := .next (stepReg .b dec8 s)

/-- `DEC C` (R225). -/
def execDecC (s : State) : Out := .next (stepReg .c dec8 s)

/-- `DEC D` (R225). -/
def execDecD (s : State) : Out := .next (stepReg .d dec8 s)

/-- `DEC E` (R225). -/
def execDecE (s : State) : Out := .next (stepReg .e dec8 s)

/-- `DEC H` (R225). -/
def execDecH (s : State) : Out := .next (stepReg .h dec8 s)

/-- `DEC L` (R225). -/
def execDecL (s : State) : Out := .next (stepReg .l dec8 s)

/-- `DEC A` (R225). -/
def execDecA (s : State) : Out := .next (stepReg .a dec8 s)

/-- `DEC BC` (R226). -/
def execDecBC (s : State) : Out := .next (s.setSS .bc (s.ss .bc - 1))

/-- `DEC DE` (R226). -/
def execDecDE (s : State) : Out := .next (s.setSS .de (s.ss .de - 1))

/-- `DEC HL` (R226). -/
def execDecHL (s : State) : Out := .next (s.setSS .hl (s.ss .hl - 1))

/-- `DEC SP` (R226). -/
def execDecSP (s : State) : Out := .next (s.setSS .sp (s.ss .sp - 1))

/-- `INC (HL)` (R250). -/
def execIncAtHL (s : State) : Out := stepAtHL inc8 s

/-- `INC (IX+d)` (R251). -/
def execIncAtIXd (d : Byte) (s : State) : Out := stepAtIdx .ix d inc8 s

/-- `INC (IY+d)` (R252). -/
def execIncAtIYd (d : Byte) (s : State) : Out := stepAtIdx .iy d inc8 s

/-- `INC IX` (R253). -/
def execIncIX (s : State) : Out := .next (s.setIdx .ix (s.idx .ix + 1))

/-- `INC IY` (R254). -/
def execIncIY (s : State) : Out := .next (s.setIdx .iy (s.idx .iy + 1))

/-- `INC B` (R255). -/
def execIncB (s : State) : Out := .next (stepReg .b inc8 s)

/-- `INC C` (R255). -/
def execIncC (s : State) : Out := .next (stepReg .c inc8 s)

/-- `INC D` (R255). -/
def execIncD (s : State) : Out := .next (stepReg .d inc8 s)

/-- `INC E` (R255). -/
def execIncE (s : State) : Out := .next (stepReg .e inc8 s)

/-- `INC H` (R255). -/
def execIncH (s : State) : Out := .next (stepReg .h inc8 s)

/-- `INC L` (R255). -/
def execIncL (s : State) : Out := .next (stepReg .l inc8 s)

/-- `INC A` (R255). -/
def execIncA (s : State) : Out := .next (stepReg .a inc8 s)

/-- `INC BC` (R256). -/
def execIncBC (s : State) : Out := .next (s.setSS .bc (s.ss .bc + 1))

/-- `INC DE` (R256). -/
def execIncDE (s : State) : Out := .next (s.setSS .de (s.ss .de + 1))

/-- `INC HL` (R256). -/
def execIncHL (s : State) : Out := .next (s.setSS .hl (s.ss .hl + 1))

/-- `INC SP` (R256). -/
def execIncSP (s : State) : Out := .next (s.setSS .sp (s.ss .sp + 1))

end Sys2Proof.Machine
end

