-- ==== Sys2Proof/Machine/Load.lean ====
section
/-! DEFINITION. LD to registers (`spec/46_ld_load.md` R340 to R379). -/

namespace Sys2Proof.Machine

/-- A byte to its destination register (R340 to R345, R371 to R375). -/
def load8 (r : Reg8) (v : Byte) (s : State) : State := s.dst8 r v

/-- A word to BC, DE, HL or SP (R346, R347, R354 to R362). -/
def load16 (dd : SS) (v : Word) (s : State) : State := s.setSS dd v

/-- A word to IX or IY (R363 to R370). -/
def loadIdx (i : Index) (v : Word) (s : State) : State := s.setIdx i v

/-- `LD A,EIR` and `LD A,IIR`: the only loads that write flags (R343, R344). -/
def loadIntReg (v : Byte) (s : State) : State := (s.dst8 .a v).setFlags (loadFlags v)

/-- `LD A,(BC)` (R340). -/
def execLdAAtBC (s : State) : Out := onAt (s.pair .bc) (load8 .a) s

/-- `LD A,(DE)` (R341). -/
def execLdAAtDE (s : State) : Out := onAt (s.pair .de) (load8 .a) s

/-- `LD A,(mn)` (R342). -/
def execLdAAtmn (mn : Word) (s : State) : Out := onAt mn (load8 .a) s

/-- `LD A,EIR` (R343). -/
def execLdAEIR (s : State) : Out := .next (loadIntReg s.cpu.eir s)

/-- `LD A,IIR` (R344). -/
def execLdAIIR (s : State) : Out := .next (loadIntReg s.cpu.iir s)

/-- `LD A,XPC` (R345). -/
def execLdAXPC (s : State) : Out := .next (load8 .a s.cpu.xpc s)

/-- `LD BC,(mn)` (R346). -/
def execLdBCAtmn (mn : Word) (s : State) : Out := onAt16 mn (load16 .bc) s

/-- `LD DE,(mn)` (R346). -/
def execLdDEAtmn (mn : Word) (s : State) : Out := onAt16 mn (load16 .de) s

/-- `LD SP,(mn)` (R346). -/
def execLdSPAtmn (mn : Word) (s : State) : Out := onAt16 mn (load16 .sp) s

/-- `LD HL,(mn)` (R347). -/
def execLdHLAtmn (mn : Word) (s : State) : Out := onAt16 mn (load16 .hl) s

/-- `LD BC',BC` (R352). -/
def execLdBCaltBC (s : State) : Out := .next (s.onAlt (fun k => k.set16 .bc (s.pair .bc)))

/-- `LD DE',BC` (R352). -/
def execLdDEaltBC (s : State) : Out := .next (s.onAlt (fun k => k.set16 .de (s.pair .bc)))

/-- `LD HL',BC` (R352). -/
def execLdHLaltBC (s : State) : Out := .next (s.onAlt (fun k => k.set16 .hl (s.pair .bc)))

/-- `LD BC',DE` (R353). -/
def execLdBCaltDE (s : State) : Out := .next (s.onAlt (fun k => k.set16 .bc (s.pair .de)))

/-- `LD DE',DE` (R353). -/
def execLdDEaltDE (s : State) : Out := .next (s.onAlt (fun k => k.set16 .de (s.pair .de)))

/-- `LD HL',DE` (R353). -/
def execLdHLaltDE (s : State) : Out := .next (s.onAlt (fun k => k.set16 .hl (s.pair .de)))

/-- `LD BC,mn` (R354). -/
def execLdBCmn (mn : Word) (s : State) : Out := .next (load16 .bc mn s)

/-- `LD DE,mn` (R354). -/
def execLdDEmn (mn : Word) (s : State) : Out := .next (load16 .de mn s)

/-- `LD HL,mn` (R354). -/
def execLdHLmn (mn : Word) (s : State) : Out := .next (load16 .hl mn s)

/-- `LD SP,mn` (R354). -/
def execLdSPmn (mn : Word) (s : State) : Out := .next (load16 .sp mn s)

/-- `LD EIR,A` (R355). -/
def execLdEIRA (s : State) : Out := .next (s.setEir s.cpu.main.a)

/-- `LD IIR,A` (R356). -/
def execLdIIRA (s : State) : Out := .next (s.setIir s.cpu.main.a)

/-- `LD HL,(HL+d)` (R357). -/
def execLdHLAtHLd (d : Byte) (s : State) : Out := onAt16 (eaHLd d s) (load16 .hl) s

/-- `LD HL,(IX+d)` (R358). -/
def execLdHLAtIXd (d : Byte) (s : State) : Out := onAt16 (eaIdx .ix d s) (load16 .hl) s

/-- `LD HL,(IY+d)` (R359). -/
def execLdHLAtIYd (d : Byte) (s : State) : Out := onAt16 (eaIdx .iy d s) (load16 .hl) s

/-- `LD HL,(SP+n)` (R360). -/
def execLdHLAtSPn (n : Byte) (s : State) : Out := onAtSP16 n (load16 .hl) s

/-- `LD HL,IX` (R361). -/
def execLdHLIX (s : State) : Out := .next (load16 .hl (s.idx .ix) s)

/-- `LD HL,IY` (R362). -/
def execLdHLIY (s : State) : Out := .next (load16 .hl (s.idx .iy) s)

/-- `LD IX,(mn)` (R363). -/
def execLdIXAtmn (mn : Word) (s : State) : Out := onAt16 mn (loadIdx .ix) s

/-- `LD IX,(SP+n)` (R364). -/
def execLdIXAtSPn (n : Byte) (s : State) : Out := onAtSP16 n (loadIdx .ix) s

/-- `LD IX,HL` (R365). -/
def execLdIXHL (s : State) : Out := .next (loadIdx .ix (s.pair .hl) s)

/-- `LD IX,mn` (R366). -/
def execLdIXmn (mn : Word) (s : State) : Out := .next (loadIdx .ix mn s)

/-- `LD IY,HL` (R367). -/
def execLdIYHL (s : State) : Out := .next (loadIdx .iy (s.pair .hl) s)

/-- `LD IY,mn` (R368). -/
def execLdIYmn (mn : Word) (s : State) : Out := .next (loadIdx .iy mn s)

/-- `LD IY,(mn)` (R369). -/
def execLdIYAtmn (mn : Word) (s : State) : Out := onAt16 mn (loadIdx .iy) s

/-- `LD IY,(SP+n)` (R370). -/
def execLdIYAtSPn (n : Byte) (s : State) : Out := onAtSP16 n (loadIdx .iy) s

/-- `LD B,(HL)` (R371). -/
def execLdBAtHL (s : State) : Out := onAtHLBug (load8 .b) s

/-- `LD C,(HL)` (R371). -/
def execLdCAtHL (s : State) : Out := onAtHLBug (load8 .c) s

/-- `LD D,(HL)` (R371). -/
def execLdDAtHL (s : State) : Out := onAtHLBug (load8 .d) s

/-- `LD E,(HL)` (R371). -/
def execLdEAtHL (s : State) : Out := onAtHLBug (load8 .e) s

/-- `LD H,(HL)` (R371). -/
def execLdHAtHL (s : State) : Out := onAtHLBug (load8 .h) s

/-- `LD L,(HL)` (R371). -/
def execLdLAtHL (s : State) : Out := onAtHLBug (load8 .l) s

/-- `LD A,(HL)` (R371). -/
def execLdAAtHL (s : State) : Out := onAtHLBug (load8 .a) s

/-- `LD B,(IX+d)` (R372). -/
def execLdBAtIXd (d : Byte) (s : State) : Out := onAtIdx .ix d (load8 .b) s

/-- `LD C,(IX+d)` (R372). -/
def execLdCAtIXd (d : Byte) (s : State) : Out := onAtIdx .ix d (load8 .c) s

/-- `LD D,(IX+d)` (R372). -/
def execLdDAtIXd (d : Byte) (s : State) : Out := onAtIdx .ix d (load8 .d) s

/-- `LD E,(IX+d)` (R372). -/
def execLdEAtIXd (d : Byte) (s : State) : Out := onAtIdx .ix d (load8 .e) s

/-- `LD H,(IX+d)` (R372). -/
def execLdHAtIXd (d : Byte) (s : State) : Out := onAtIdx .ix d (load8 .h) s

/-- `LD L,(IX+d)` (R372). -/
def execLdLAtIXd (d : Byte) (s : State) : Out := onAtIdx .ix d (load8 .l) s

/-- `LD A,(IX+d)` (R372). -/
def execLdAAtIXd (d : Byte) (s : State) : Out := onAtIdx .ix d (load8 .a) s

/-- `LD B,(IY+d)` (R373). -/
def execLdBAtIYd (d : Byte) (s : State) : Out := onAtIdx .iy d (load8 .b) s

/-- `LD C,(IY+d)` (R373). -/
def execLdCAtIYd (d : Byte) (s : State) : Out := onAtIdx .iy d (load8 .c) s

/-- `LD D,(IY+d)` (R373). -/
def execLdDAtIYd (d : Byte) (s : State) : Out := onAtIdx .iy d (load8 .d) s

/-- `LD E,(IY+d)` (R373). -/
def execLdEAtIYd (d : Byte) (s : State) : Out := onAtIdx .iy d (load8 .e) s

/-- `LD H,(IY+d)` (R373). -/
def execLdHAtIYd (d : Byte) (s : State) : Out := onAtIdx .iy d (load8 .h) s

/-- `LD L,(IY+d)` (R373). -/
def execLdLAtIYd (d : Byte) (s : State) : Out := onAtIdx .iy d (load8 .l) s

/-- `LD A,(IY+d)` (R373). -/
def execLdAAtIYd (d : Byte) (s : State) : Out := onAtIdx .iy d (load8 .a) s

/-- `LD B,n` (R374). -/
def execLdBn (n : Byte) (s : State) : Out := onImm n (load8 .b) s

/-- `LD C,n` (R374). -/
def execLdCn (n : Byte) (s : State) : Out := onImm n (load8 .c) s

/-- `LD D,n` (R374). -/
def execLdDn (n : Byte) (s : State) : Out := onImm n (load8 .d) s

/-- `LD E,n` (R374). -/
def execLdEn (n : Byte) (s : State) : Out := onImm n (load8 .e) s

/-- `LD H,n` (R374). -/
def execLdHn (n : Byte) (s : State) : Out := onImm n (load8 .h) s

/-- `LD L,n` (R374). -/
def execLdLn (n : Byte) (s : State) : Out := onImm n (load8 .l) s

/-- `LD A,n` (R374). -/
def execLdAn (n : Byte) (s : State) : Out := onImm n (load8 .a) s

/-- `LD B,B` (R375). -/
def execLdBB (s : State) : Out := onReg .b (load8 .b) s

/-- `LD B,C` (R375). -/
def execLdBC (s : State) : Out := onReg .c (load8 .b) s

/-- `LD B,D` (R375). -/
def execLdBD (s : State) : Out := onReg .d (load8 .b) s

/-- `LD B,E` (R375). -/
def execLdBE (s : State) : Out := onReg .e (load8 .b) s

/-- `LD B,H` (R375). -/
def execLdBH (s : State) : Out := onReg .h (load8 .b) s

/-- `LD B,L` (R375). -/
def execLdBL (s : State) : Out := onReg .l (load8 .b) s

/-- `LD B,A` (R375). -/
def execLdBA (s : State) : Out := onReg .a (load8 .b) s

/-- `LD C,B` (R375). -/
def execLdCB (s : State) : Out := onReg .b (load8 .c) s

/-- `LD C,C` (R375). -/
def execLdCC (s : State) : Out := onReg .c (load8 .c) s

/-- `LD C,D` (R375). -/
def execLdCD (s : State) : Out := onReg .d (load8 .c) s

/-- `LD C,E` (R375). -/
def execLdCE (s : State) : Out := onReg .e (load8 .c) s

/-- `LD C,H` (R375). -/
def execLdCH (s : State) : Out := onReg .h (load8 .c) s

/-- `LD C,L` (R375). -/
def execLdCL (s : State) : Out := onReg .l (load8 .c) s

/-- `LD C,A` (R375). -/
def execLdCA (s : State) : Out := onReg .a (load8 .c) s

/-- `LD D,B` (R375). -/
def execLdDB (s : State) : Out := onReg .b (load8 .d) s

/-- `LD D,C` (R375). -/
def execLdDC (s : State) : Out := onReg .c (load8 .d) s

/-- `LD D,D` (R375). -/
def execLdDD (s : State) : Out := onReg .d (load8 .d) s

/-- `LD D,E` (R375). -/
def execLdDE (s : State) : Out := onReg .e (load8 .d) s

/-- `LD D,H` (R375). -/
def execLdDH (s : State) : Out := onReg .h (load8 .d) s

/-- `LD D,L` (R375). -/
def execLdDL (s : State) : Out := onReg .l (load8 .d) s

/-- `LD D,A` (R375). -/
def execLdDA (s : State) : Out := onReg .a (load8 .d) s

/-- `LD E,B` (R375). -/
def execLdEB (s : State) : Out := onReg .b (load8 .e) s

/-- `LD E,C` (R375). -/
def execLdEC (s : State) : Out := onReg .c (load8 .e) s

/-- `LD E,D` (R375). -/
def execLdED (s : State) : Out := onReg .d (load8 .e) s

/-- `LD E,E` (R375). -/
def execLdEE (s : State) : Out := onReg .e (load8 .e) s

/-- `LD E,H` (R375). -/
def execLdEH (s : State) : Out := onReg .h (load8 .e) s

/-- `LD E,L` (R375). -/
def execLdEL (s : State) : Out := onReg .l (load8 .e) s

/-- `LD E,A` (R375). -/
def execLdEA (s : State) : Out := onReg .a (load8 .e) s

/-- `LD H,B` (R375). -/
def execLdHB (s : State) : Out := onReg .b (load8 .h) s

/-- `LD H,C` (R375). -/
def execLdHC (s : State) : Out := onReg .c (load8 .h) s

/-- `LD H,D` (R375). -/
def execLdHD (s : State) : Out := onReg .d (load8 .h) s

/-- `LD H,E` (R375). -/
def execLdHE (s : State) : Out := onReg .e (load8 .h) s

/-- `LD H,H` (R375). -/
def execLdHH (s : State) : Out := onReg .h (load8 .h) s

/-- `LD H,L` (R375). -/
def execLdHL (s : State) : Out := onReg .l (load8 .h) s

/-- `LD H,A` (R375). -/
def execLdHA (s : State) : Out := onReg .a (load8 .h) s

/-- `LD L,B` (R375). -/
def execLdLB (s : State) : Out := onReg .b (load8 .l) s

/-- `LD L,C` (R375). -/
def execLdLC (s : State) : Out := onReg .c (load8 .l) s

/-- `LD L,D` (R375). -/
def execLdLD (s : State) : Out := onReg .d (load8 .l) s

/-- `LD L,E` (R375). -/
def execLdLE (s : State) : Out := onReg .e (load8 .l) s

/-- `LD L,H` (R375). -/
def execLdLH (s : State) : Out := onReg .h (load8 .l) s

/-- `LD L,L` (R375). -/
def execLdLL (s : State) : Out := onReg .l (load8 .l) s

/-- `LD L,A` (R375). -/
def execLdLA (s : State) : Out := onReg .a (load8 .l) s

/-- `LD A,B` (R375). -/
def execLdAB (s : State) : Out := onReg .b (load8 .a) s

/-- `LD A,C` (R375). -/
def execLdAC (s : State) : Out := onReg .c (load8 .a) s

/-- `LD A,D` (R375). -/
def execLdAD (s : State) : Out := onReg .d (load8 .a) s

/-- `LD A,E` (R375). -/
def execLdAE (s : State) : Out := onReg .e (load8 .a) s

/-- `LD A,H` (R375). -/
def execLdAH (s : State) : Out := onReg .h (load8 .a) s

/-- `LD A,L` (R375). -/
def execLdAL (s : State) : Out := onReg .l (load8 .a) s

/-- `LD A,A` (R375). -/
def execLdAA (s : State) : Out := onReg .a (load8 .a) s

/-- `LD SP,HL` (R376). -/
def execLdSPHL (s : State) : Out := .next (s.setSp (s.pair .hl))

/-- `LD SP,IX` (R377). -/
def execLdSPIX (s : State) : Out := .next (s.setSp (s.idx .ix))

/-- `LD SP,IY` (R378). -/
def execLdSPIY (s : State) : Out := .next (s.setSp (s.idx .iy))

/-- `LD XPC,A` (R379). -/
def execLdXPCA (s : State) : Out := .next (s.setXpc s.cpu.main.a)

end Sys2Proof.Machine
end

