-- ==== Sys2Proof/Machine/Logic.lean ====
section
/-! DEFINITION. AND, BIT, BOOL, CCF, CP, CPL (`spec/40_adc_add_altd_and.md` R170 to R177, `41_bit_bool_call_ccf_cp_cpl.md`). -/

namespace Sys2Proof.Machine

/-- `A & v` to the Accumulator, with its flags (R170 to R177). -/
def andA (v : Byte) (s : State) : State :=
  let p := and8 s.cpu.main.a v
  (s.dst8 .a p.1).setFlags p.2

/-- `HL & v` to HL, with its flags (R173). -/
def andHL (v : Word) (s : State) : State :=
  let p := and16 (s.pair .hl) v
  (s.dst16 .hl p.1).setFlags p.2

/-- `IX & v` to IX, or `IY & v` to IY, with its flags (R174, R175). -/
def andIdx (i : Index) (v : Word) (s : State) : State :=
  let p := and16 (s.idx i) v
  (s.setIdx i p.1).setFlags p.2

/-- Z from the tested bit (R190 to R193). -/
def testBit (b : BitNo) (v : Byte) (s : State) : State := s.setFlags (bittest v b)

/-- HL becomes 1 if it is not 0, with its flags (R194). -/
def boolHL (s : State) : State :=
  let p := bool16 (s.pair .hl)
  (s.dst16 .hl p.1).setFlags p.2

/-- IX or IY becomes 1 if it is not 0, with its flags (R195, R196). -/
def boolIdx (i : Index) (s : State) : State :=
  let p := bool16 (s.idx i)
  (s.setIdx i p.1).setFlags p.2

/-- The flags of `A - v`; A is not written (R202 to R206). -/
def cpA (v : Byte) (s : State) : State := s.setFlags (sub8 s.cpu.main.a v).2

/-- `CF = ~CF`, read from the main F (R201). -/
def complementCarry (s : State) : State := s.setFlags { c := some (!s.cpu.main.f.c) }

/-- `A = ~A` (R207). -/
def complementA (s : State) : State := s.dst8 .a (~~~s.cpu.main.a)

/-- `AND (HL)` (R170). -/
def execAndAtHL (s : State) : Out := onAtHLBug andA s

/-- `AND (IX+d)` (R171). -/
def execAndAtIXd (d : Byte) (s : State) : Out := onAtIdx .ix d andA s

/-- `AND (IY+d)` (R172). -/
def execAndAtIYd (d : Byte) (s : State) : Out := onAtIdx .iy d andA s

/-- `AND HL,DE` (R173). -/
def execAndHLDE (s : State) : Out := .next (andHL (s.pair .de) s)

/-- `AND IX,DE` (R174). -/
def execAndIXDE (s : State) : Out := .next (andIdx .ix (s.pair .de) s)

/-- `AND IY,DE` (R175). -/
def execAndIYDE (s : State) : Out := .next (andIdx .iy (s.pair .de) s)

/-- `AND n` (R176). -/
def execAndn (n : Byte) (s : State) : Out := onImm n andA s

/-- `AND B` (R177). -/
def execAndB (s : State) : Out := onReg .b andA s

/-- `AND C` (R177). -/
def execAndC (s : State) : Out := onReg .c andA s

/-- `AND D` (R177). -/
def execAndD (s : State) : Out := onReg .d andA s

/-- `AND E` (R177). -/
def execAndE (s : State) : Out := onReg .e andA s

/-- `AND H` (R177). -/
def execAndH (s : State) : Out := onReg .h andA s

/-- `AND L` (R177). -/
def execAndL (s : State) : Out := onReg .l andA s

/-- `AND A` (R177). -/
def execAndA (s : State) : Out := onReg .a andA s

/-- `BIT 0,(HL)` (R190). -/
def execBit0AtHL (s : State) : Out := onAt (eaHL s) (testBit .b0) s

/-- `BIT 1,(HL)` (R190). -/
def execBit1AtHL (s : State) : Out := onAt (eaHL s) (testBit .b1) s

/-- `BIT 2,(HL)` (R190). -/
def execBit2AtHL (s : State) : Out := onAt (eaHL s) (testBit .b2) s

/-- `BIT 3,(HL)` (R190). -/
def execBit3AtHL (s : State) : Out := onAt (eaHL s) (testBit .b3) s

/-- `BIT 4,(HL)` (R190). -/
def execBit4AtHL (s : State) : Out := onAt (eaHL s) (testBit .b4) s

/-- `BIT 5,(HL)` (R190). -/
def execBit5AtHL (s : State) : Out := onAt (eaHL s) (testBit .b5) s

/-- `BIT 6,(HL)` (R190). -/
def execBit6AtHL (s : State) : Out := onAt (eaHL s) (testBit .b6) s

/-- `BIT 7,(HL)` (R190). -/
def execBit7AtHL (s : State) : Out := onAt (eaHL s) (testBit .b7) s

/-- `BIT 0,(IX+d)` (R191). -/
def execBit0AtIXd (d : Byte) (s : State) : Out := onAtIdx .ix d (testBit .b0) s

/-- `BIT 1,(IX+d)` (R191). -/
def execBit1AtIXd (d : Byte) (s : State) : Out := onAtIdx .ix d (testBit .b1) s

/-- `BIT 2,(IX+d)` (R191). -/
def execBit2AtIXd (d : Byte) (s : State) : Out := onAtIdx .ix d (testBit .b2) s

/-- `BIT 3,(IX+d)` (R191). -/
def execBit3AtIXd (d : Byte) (s : State) : Out := onAtIdx .ix d (testBit .b3) s

/-- `BIT 4,(IX+d)` (R191). -/
def execBit4AtIXd (d : Byte) (s : State) : Out := onAtIdx .ix d (testBit .b4) s

/-- `BIT 5,(IX+d)` (R191). -/
def execBit5AtIXd (d : Byte) (s : State) : Out := onAtIdx .ix d (testBit .b5) s

/-- `BIT 6,(IX+d)` (R191). -/
def execBit6AtIXd (d : Byte) (s : State) : Out := onAtIdx .ix d (testBit .b6) s

/-- `BIT 7,(IX+d)` (R191). -/
def execBit7AtIXd (d : Byte) (s : State) : Out := onAtIdx .ix d (testBit .b7) s

/-- `BIT 0,(IY+d)` (R192). -/
def execBit0AtIYd (d : Byte) (s : State) : Out := onAtIdx .iy d (testBit .b0) s

/-- `BIT 1,(IY+d)` (R192). -/
def execBit1AtIYd (d : Byte) (s : State) : Out := onAtIdx .iy d (testBit .b1) s

/-- `BIT 2,(IY+d)` (R192). -/
def execBit2AtIYd (d : Byte) (s : State) : Out := onAtIdx .iy d (testBit .b2) s

/-- `BIT 3,(IY+d)` (R192). -/
def execBit3AtIYd (d : Byte) (s : State) : Out := onAtIdx .iy d (testBit .b3) s

/-- `BIT 4,(IY+d)` (R192). -/
def execBit4AtIYd (d : Byte) (s : State) : Out := onAtIdx .iy d (testBit .b4) s

/-- `BIT 5,(IY+d)` (R192). -/
def execBit5AtIYd (d : Byte) (s : State) : Out := onAtIdx .iy d (testBit .b5) s

/-- `BIT 6,(IY+d)` (R192). -/
def execBit6AtIYd (d : Byte) (s : State) : Out := onAtIdx .iy d (testBit .b6) s

/-- `BIT 7,(IY+d)` (R192). -/
def execBit7AtIYd (d : Byte) (s : State) : Out := onAtIdx .iy d (testBit .b7) s

/-- `BIT 0,B` (R193). -/
def execBit0B (s : State) : Out := onReg .b (testBit .b0) s

/-- `BIT 0,C` (R193). -/
def execBit0C (s : State) : Out := onReg .c (testBit .b0) s

/-- `BIT 0,D` (R193). -/
def execBit0D (s : State) : Out := onReg .d (testBit .b0) s

/-- `BIT 0,E` (R193). -/
def execBit0E (s : State) : Out := onReg .e (testBit .b0) s

/-- `BIT 0,H` (R193). -/
def execBit0H (s : State) : Out := onReg .h (testBit .b0) s

/-- `BIT 0,L` (R193). -/
def execBit0L (s : State) : Out := onReg .l (testBit .b0) s

/-- `BIT 0,A` (R193). -/
def execBit0A (s : State) : Out := onReg .a (testBit .b0) s

/-- `BIT 1,B` (R193). -/
def execBit1B (s : State) : Out := onReg .b (testBit .b1) s

/-- `BIT 1,C` (R193). -/
def execBit1C (s : State) : Out := onReg .c (testBit .b1) s

/-- `BIT 1,D` (R193). -/
def execBit1D (s : State) : Out := onReg .d (testBit .b1) s

/-- `BIT 1,E` (R193). -/
def execBit1E (s : State) : Out := onReg .e (testBit .b1) s

/-- `BIT 1,H` (R193). -/
def execBit1H (s : State) : Out := onReg .h (testBit .b1) s

/-- `BIT 1,L` (R193). -/
def execBit1L (s : State) : Out := onReg .l (testBit .b1) s

/-- `BIT 1,A` (R193). -/
def execBit1A (s : State) : Out := onReg .a (testBit .b1) s

/-- `BIT 2,B` (R193). -/
def execBit2B (s : State) : Out := onReg .b (testBit .b2) s

/-- `BIT 2,C` (R193). -/
def execBit2C (s : State) : Out := onReg .c (testBit .b2) s

/-- `BIT 2,D` (R193). -/
def execBit2D (s : State) : Out := onReg .d (testBit .b2) s

/-- `BIT 2,E` (R193). -/
def execBit2E (s : State) : Out := onReg .e (testBit .b2) s

/-- `BIT 2,H` (R193). -/
def execBit2H (s : State) : Out := onReg .h (testBit .b2) s

/-- `BIT 2,L` (R193). -/
def execBit2L (s : State) : Out := onReg .l (testBit .b2) s

/-- `BIT 2,A` (R193). -/
def execBit2A (s : State) : Out := onReg .a (testBit .b2) s

/-- `BIT 3,B` (R193). -/
def execBit3B (s : State) : Out := onReg .b (testBit .b3) s

/-- `BIT 3,C` (R193). -/
def execBit3C (s : State) : Out := onReg .c (testBit .b3) s

/-- `BIT 3,D` (R193). -/
def execBit3D (s : State) : Out := onReg .d (testBit .b3) s

/-- `BIT 3,E` (R193). -/
def execBit3E (s : State) : Out := onReg .e (testBit .b3) s

/-- `BIT 3,H` (R193). -/
def execBit3H (s : State) : Out := onReg .h (testBit .b3) s

/-- `BIT 3,L` (R193). -/
def execBit3L (s : State) : Out := onReg .l (testBit .b3) s

/-- `BIT 3,A` (R193). -/
def execBit3A (s : State) : Out := onReg .a (testBit .b3) s

/-- `BIT 4,B` (R193). -/
def execBit4B (s : State) : Out := onReg .b (testBit .b4) s

/-- `BIT 4,C` (R193). -/
def execBit4C (s : State) : Out := onReg .c (testBit .b4) s

/-- `BIT 4,D` (R193). -/
def execBit4D (s : State) : Out := onReg .d (testBit .b4) s

/-- `BIT 4,E` (R193). -/
def execBit4E (s : State) : Out := onReg .e (testBit .b4) s

/-- `BIT 4,H` (R193). -/
def execBit4H (s : State) : Out := onReg .h (testBit .b4) s

/-- `BIT 4,L` (R193). -/
def execBit4L (s : State) : Out := onReg .l (testBit .b4) s

/-- `BIT 4,A` (R193). -/
def execBit4A (s : State) : Out := onReg .a (testBit .b4) s

/-- `BIT 5,B` (R193). -/
def execBit5B (s : State) : Out := onReg .b (testBit .b5) s

/-- `BIT 5,C` (R193). -/
def execBit5C (s : State) : Out := onReg .c (testBit .b5) s

/-- `BIT 5,D` (R193). -/
def execBit5D (s : State) : Out := onReg .d (testBit .b5) s

/-- `BIT 5,E` (R193). -/
def execBit5E (s : State) : Out := onReg .e (testBit .b5) s

/-- `BIT 5,H` (R193). -/
def execBit5H (s : State) : Out := onReg .h (testBit .b5) s

/-- `BIT 5,L` (R193). -/
def execBit5L (s : State) : Out := onReg .l (testBit .b5) s

/-- `BIT 5,A` (R193). -/
def execBit5A (s : State) : Out := onReg .a (testBit .b5) s

/-- `BIT 6,B` (R193). -/
def execBit6B (s : State) : Out := onReg .b (testBit .b6) s

/-- `BIT 6,C` (R193). -/
def execBit6C (s : State) : Out := onReg .c (testBit .b6) s

/-- `BIT 6,D` (R193). -/
def execBit6D (s : State) : Out := onReg .d (testBit .b6) s

/-- `BIT 6,E` (R193). -/
def execBit6E (s : State) : Out := onReg .e (testBit .b6) s

/-- `BIT 6,H` (R193). -/
def execBit6H (s : State) : Out := onReg .h (testBit .b6) s

/-- `BIT 6,L` (R193). -/
def execBit6L (s : State) : Out := onReg .l (testBit .b6) s

/-- `BIT 6,A` (R193). -/
def execBit6A (s : State) : Out := onReg .a (testBit .b6) s

/-- `BIT 7,B` (R193). -/
def execBit7B (s : State) : Out := onReg .b (testBit .b7) s

/-- `BIT 7,C` (R193). -/
def execBit7C (s : State) : Out := onReg .c (testBit .b7) s

/-- `BIT 7,D` (R193). -/
def execBit7D (s : State) : Out := onReg .d (testBit .b7) s

/-- `BIT 7,E` (R193). -/
def execBit7E (s : State) : Out := onReg .e (testBit .b7) s

/-- `BIT 7,H` (R193). -/
def execBit7H (s : State) : Out := onReg .h (testBit .b7) s

/-- `BIT 7,L` (R193). -/
def execBit7L (s : State) : Out := onReg .l (testBit .b7) s

/-- `BIT 7,A` (R193). -/
def execBit7A (s : State) : Out := onReg .a (testBit .b7) s

/-- `BOOL HL` (R194). -/
def execBoolHL (s : State) : Out := .next (boolHL s)

/-- `BOOL IX` (R195). -/
def execBoolIX (s : State) : Out := .next (boolIdx .ix s)

/-- `BOOL IY` (R196). -/
def execBoolIY (s : State) : Out := .next (boolIdx .iy s)

/-- `CCF` (R201). -/
def execCcf (s : State) : Out := .next (complementCarry s)

/-- `CP (HL)` (R202). -/
def execCpAtHL (s : State) : Out := onAtHLBug cpA s

/-- `CP (IX+d)` (R203). -/
def execCpAtIXd (d : Byte) (s : State) : Out := onAtIdx .ix d cpA s

/-- `CP (IY+d)` (R204). -/
def execCpAtIYd (d : Byte) (s : State) : Out := onAtIdx .iy d cpA s

/-- `CP n` (R205). -/
def execCpn (n : Byte) (s : State) : Out := onImm n cpA s

/-- `CP B` (R206). -/
def execCpB (s : State) : Out := onReg .b cpA s

/-- `CP C` (R206). -/
def execCpC (s : State) : Out := onReg .c cpA s

/-- `CP D` (R206). -/
def execCpD (s : State) : Out := onReg .d cpA s

/-- `CP E` (R206). -/
def execCpE (s : State) : Out := onReg .e cpA s

/-- `CP H` (R206). -/
def execCpH (s : State) : Out := onReg .h cpA s

/-- `CP L` (R206). -/
def execCpL (s : State) : Out := onReg .l cpA s

/-- `CP A` (R206). -/
def execCpA (s : State) : Out := onReg .a cpA s

/-- `CPL` (R207). -/
def execCpl (s : State) : Out := .next (complementA s)

end Sys2Proof.Machine
end

