-- ==== Sys2Proof/Machine/Store.lean ====
section
/-! DEFINITION. LD to memory (`spec/45_ld_store.md` R300 to R318). -/

namespace Sys2Proof.Machine

/-- `LD (BC),A` (R300). -/
def execLdAtBCA (s : State) : Out := .next (dstWrite (s.pair .bc) s.cpu.main.a s)

/-- `LD (DE),A` (R301). -/
def execLdAtDEA (s : State) : Out := .next (dstWrite (s.pair .de) s.cpu.main.a s)

/-- `LD (HL),n` (R302). -/
def execLdAtHLn (n : Byte) (s : State) : Out := .next (dstWrite (eaHL s) n s)

/-- `LD (HL),B` (R303). -/
def execLdAtHLB (s : State) : Out := bugWrite (eaHL s) (s.reg8 .b) s

/-- `LD (HL),C` (R303). -/
def execLdAtHLC (s : State) : Out := bugWrite (eaHL s) (s.reg8 .c) s

/-- `LD (HL),D` (R303). -/
def execLdAtHLD (s : State) : Out := bugWrite (eaHL s) (s.reg8 .d) s

/-- `LD (HL),E` (R303). -/
def execLdAtHLE (s : State) : Out := bugWrite (eaHL s) (s.reg8 .e) s

/-- `LD (HL),H` (R303). -/
def execLdAtHLH (s : State) : Out := bugWrite (eaHL s) (s.reg8 .h) s

/-- `LD (HL),L` (R303). -/
def execLdAtHLL (s : State) : Out := bugWrite (eaHL s) (s.reg8 .l) s

/-- `LD (HL),A` (R303). -/
def execLdAtHLA (s : State) : Out := bugWrite (eaHL s) (s.reg8 .a) s

/-- `LD (HL+d),HL` (R304). -/
def execLdAtHLdHL (d : Byte) (s : State) : Out := .next (dstWrite16 (eaHLd d s) (s.pair .hl) s)

/-- `LD (IX+d),HL` (R305). -/
def execLdAtIXdHL (d : Byte) (s : State) : Out := .next (dstWrite16 (eaIdx .ix d s) (s.pair .hl) s)

/-- `LD (IX+d),n` (R306). -/
def execLdAtIXdn (d : Byte) (n : Byte) (s : State) : Out := .next (dstWrite (eaIdx .ix d s) n s)

/-- `LD (IX+d),B` (R307). -/
def execLdAtIXdB (d : Byte) (s : State) : Out := .next (dstWrite (eaIdx .ix d s) (s.reg8 .b) s)

/-- `LD (IX+d),C` (R307). -/
def execLdAtIXdC (d : Byte) (s : State) : Out := .next (dstWrite (eaIdx .ix d s) (s.reg8 .c) s)

/-- `LD (IX+d),D` (R307). -/
def execLdAtIXdD (d : Byte) (s : State) : Out := .next (dstWrite (eaIdx .ix d s) (s.reg8 .d) s)

/-- `LD (IX+d),E` (R307). -/
def execLdAtIXdE (d : Byte) (s : State) : Out := .next (dstWrite (eaIdx .ix d s) (s.reg8 .e) s)

/-- `LD (IX+d),H` (R307). -/
def execLdAtIXdH (d : Byte) (s : State) : Out := .next (dstWrite (eaIdx .ix d s) (s.reg8 .h) s)

/-- `LD (IX+d),L` (R307). -/
def execLdAtIXdL (d : Byte) (s : State) : Out := .next (dstWrite (eaIdx .ix d s) (s.reg8 .l) s)

/-- `LD (IX+d),A` (R307). -/
def execLdAtIXdA (d : Byte) (s : State) : Out := .next (dstWrite (eaIdx .ix d s) (s.reg8 .a) s)

/-- `LD (IY+d),HL` (R308). -/
def execLdAtIYdHL (d : Byte) (s : State) : Out := .next (dstWrite16 (eaIdx .iy d s) (s.pair .hl) s)

/-- `LD (IY+d),n` (R309). -/
def execLdAtIYdn (d : Byte) (n : Byte) (s : State) : Out := .next (dstWrite (eaIdx .iy d s) n s)

/-- `LD (IY+d),B` (R310). -/
def execLdAtIYdB (d : Byte) (s : State) : Out := .next (dstWrite (eaIdx .iy d s) (s.reg8 .b) s)

/-- `LD (IY+d),C` (R310). -/
def execLdAtIYdC (d : Byte) (s : State) : Out := .next (dstWrite (eaIdx .iy d s) (s.reg8 .c) s)

/-- `LD (IY+d),D` (R310). -/
def execLdAtIYdD (d : Byte) (s : State) : Out := .next (dstWrite (eaIdx .iy d s) (s.reg8 .d) s)

/-- `LD (IY+d),E` (R310). -/
def execLdAtIYdE (d : Byte) (s : State) : Out := .next (dstWrite (eaIdx .iy d s) (s.reg8 .e) s)

/-- `LD (IY+d),H` (R310). -/
def execLdAtIYdH (d : Byte) (s : State) : Out := .next (dstWrite (eaIdx .iy d s) (s.reg8 .h) s)

/-- `LD (IY+d),L` (R310). -/
def execLdAtIYdL (d : Byte) (s : State) : Out := .next (dstWrite (eaIdx .iy d s) (s.reg8 .l) s)

/-- `LD (IY+d),A` (R310). -/
def execLdAtIYdA (d : Byte) (s : State) : Out := .next (dstWrite (eaIdx .iy d s) (s.reg8 .a) s)

/-- `LD (mn),A` (R311). -/
def execLdAtmnA (mn : Word) (s : State) : Out := .next (dstWrite mn s.cpu.main.a s)

/-- `LD (mn),HL` (R312). -/
def execLdAtmnHL (mn : Word) (s : State) : Out := .next (dstWrite16 mn (s.pair .hl) s)

/-- `LD (mn),IX` (R313). -/
def execLdAtmnIX (mn : Word) (s : State) : Out := .next (dstWrite16 mn (s.idx .ix) s)

/-- `LD (mn),IY` (R314). -/
def execLdAtmnIY (mn : Word) (s : State) : Out := .next (dstWrite16 mn (s.idx .iy) s)

/-- `LD (mn),BC` (R315). -/
def execLdAtmnBC (mn : Word) (s : State) : Out := .next (dstWrite16 mn (s.ss .bc) s)

/-- `LD (mn),DE` (R315). -/
def execLdAtmnDE (mn : Word) (s : State) : Out := .next (dstWrite16 mn (s.ss .de) s)

/-- `LD (mn),HL`, the encoding of the ED page (R315). -/
def execLdAtmnHLed (mn : Word) (s : State) : Out := .next (dstWrite16 mn (s.ss .hl) s)

/-- `LD (mn),SP` (R315). -/
def execLdAtmnSP (mn : Word) (s : State) : Out := .next (dstWrite16 mn (s.ss .sp) s)

/-- `LD (SP+n),HL` (R316). -/
def execLdAtSPnHL (n : Byte) (s : State) : Out := .next (memWrite16 (eaSP n s) (s.pair .hl) s)

/-- `LD (SP+n),IX` (R317). -/
def execLdAtSPnIX (n : Byte) (s : State) : Out := .next (memWrite16 (eaSP n s) (s.idx .ix) s)

/-- `LD (SP+n),IY` (R318). -/
def execLdAtSPnIY (n : Byte) (s : State) : Out := .next (memWrite16 (eaSP n s) (s.idx .iy) s)

end Sys2Proof.Machine
end

