-- ==== Sys2Proof/Machine/System.lean ====
section
/-! DEFINITION. The prefixes ALTD, IOE, IOI as rows (`spec/40_adc_add_altd_and.md` R167, `43_inc_io_ip.md` R257, R258), IPSET and IPRES (R261 to R265). -/

namespace Sys2Proof.Machine

/-- `IPSET p`: `IP = {IP[5:0], p}` (R261 to R264). -/
def pushPriority (p : BitVec 2) (s : State) : State := s.setIp (s.cpu.ip.extractLsb' 0 6 ++ p)

/-- `IPRES`: `IP = {IP[1:0], IP[7:2]}` (R265). -/
def popPriority (s : State) : State := s.setIp (s.cpu.ip.extractLsb' 0 2 ++ s.cpu.ip.extractLsb' 2 6)

/-- `ALTD` (R167). -/
def execAltd (s : State) : Out := .next { s with altd := true }

/-- `IOE` (R257). -/
def execIoe (s : State) : Out := .next { s with io := some .ioe }

/-- `IOI` (R258). -/
def execIoi (s : State) : Out := .next { s with io := some .ioi }

/-- `IPSET 0` (R261). -/
def execIpset0 (s : State) : Out := .next (pushPriority 0 s)

/-- `IPSET 1` (R262). -/
def execIpset1 (s : State) : Out := .next (pushPriority 1 s)

/-- `IPSET 2` (R263). -/
def execIpset2 (s : State) : Out := .next (pushPriority 2 s)

/-- `IPSET 3` (R264). -/
def execIpset3 (s : State) : Out := .next (pushPriority 3 s)

/-- `IPRES` (R265). -/
def execIpres (s : State) : Out := .next (popPriority s)

end Sys2Proof.Machine
end

