-- ==== Sys2Proof/Machine/Dispatch.lean ====
section
/-! DEFINITION. One arm for each constructor of Instr: a direct call of its meaning. -/

namespace Sys2Proof.Machine

def exec (i : Instr) (s : State) : Host.Outcome State Fault Refusal :=
  match i with
  | .adcAAtHL => Sys2Proof.Machine.execAdcAAtHL s
  | .adcAAtIXd d => Sys2Proof.Machine.execAdcAAtIXd d s
  | .adcAAtIYd d => Sys2Proof.Machine.execAdcAAtIYd d s
  | .adcAn n => Sys2Proof.Machine.execAdcAn n s
  | .adcAB => Sys2Proof.Machine.execAdcAB s
  | .adcAC => Sys2Proof.Machine.execAdcAC s
  | .adcAD => Sys2Proof.Machine.execAdcAD s
  | .adcAE => Sys2Proof.Machine.execAdcAE s
  | .adcAH => Sys2Proof.Machine.execAdcAH s
  | .adcAL => Sys2Proof.Machine.execAdcAL s
  | .adcAA => Sys2Proof.Machine.execAdcAA s
  | .adcHLBC => Sys2Proof.Machine.execAdcHLBC s
  | .adcHLDE => Sys2Proof.Machine.execAdcHLDE s
  | .adcHLHL => Sys2Proof.Machine.execAdcHLHL s
  | .adcHLSP => Sys2Proof.Machine.execAdcHLSP s
  | .addAAtHL => Sys2Proof.Machine.execAddAAtHL s
  | .addAAtIXd d => Sys2Proof.Machine.execAddAAtIXd d s
  | .addAAtIYd d => Sys2Proof.Machine.execAddAAtIYd d s
  | .addAn n => Sys2Proof.Machine.execAddAn n s
  | .addAB => Sys2Proof.Machine.execAddAB s
  | .addAC => Sys2Proof.Machine.execAddAC s
  | .addAD => Sys2Proof.Machine.execAddAD s
  | .addAE => Sys2Proof.Machine.execAddAE s
  | .addAH => Sys2Proof.Machine.execAddAH s
  | .addAL => Sys2Proof.Machine.execAddAL s
  | .addAA => Sys2Proof.Machine.execAddAA s
  | .addHLBC => Sys2Proof.Machine.execAddHLBC s
  | .addHLDE => Sys2Proof.Machine.execAddHLDE s
  | .addHLHL => Sys2Proof.Machine.execAddHLHL s
  | .addHLSP => Sys2Proof.Machine.execAddHLSP s
  | .addIXBC => Sys2Proof.Machine.execAddIXBC s
  | .addIXDE => Sys2Proof.Machine.execAddIXDE s
  | .addIXIX => Sys2Proof.Machine.execAddIXIX s
  | .addIXSP => Sys2Proof.Machine.execAddIXSP s
  | .addIYBC => Sys2Proof.Machine.execAddIYBC s
  | .addIYDE => Sys2Proof.Machine.execAddIYDE s
  | .addIYIY => Sys2Proof.Machine.execAddIYIY s
  | .addIYSP => Sys2Proof.Machine.execAddIYSP s
  | .addSPd d => Sys2Proof.Machine.execAddSPd d s
  | .altd => Sys2Proof.Machine.execAltd s
  | .andAtHL => Sys2Proof.Machine.execAndAtHL s
  | .andAtIXd d => Sys2Proof.Machine.execAndAtIXd d s
  | .andAtIYd d => Sys2Proof.Machine.execAndAtIYd d s
  | .andHLDE => Sys2Proof.Machine.execAndHLDE s
  | .andIXDE => Sys2Proof.Machine.execAndIXDE s
  | .andIYDE => Sys2Proof.Machine.execAndIYDE s
  | .andn n => Sys2Proof.Machine.execAndn n s
  | .andB => Sys2Proof.Machine.execAndB s
  | .andC => Sys2Proof.Machine.execAndC s
  | .andD => Sys2Proof.Machine.execAndD s
  | .andE => Sys2Proof.Machine.execAndE s
  | .andH => Sys2Proof.Machine.execAndH s
  | .andL => Sys2Proof.Machine.execAndL s
  | .andA => Sys2Proof.Machine.execAndA s
  | .bit0AtHL => Sys2Proof.Machine.execBit0AtHL s
  | .bit1AtHL => Sys2Proof.Machine.execBit1AtHL s
  | .bit2AtHL => Sys2Proof.Machine.execBit2AtHL s
  | .bit3AtHL => Sys2Proof.Machine.execBit3AtHL s
  | .bit4AtHL => Sys2Proof.Machine.execBit4AtHL s
  | .bit5AtHL => Sys2Proof.Machine.execBit5AtHL s
  | .bit6AtHL => Sys2Proof.Machine.execBit6AtHL s
  | .bit7AtHL => Sys2Proof.Machine.execBit7AtHL s
  | .bit0AtIXd d => Sys2Proof.Machine.execBit0AtIXd d s
  | .bit1AtIXd d => Sys2Proof.Machine.execBit1AtIXd d s
  | .bit2AtIXd d => Sys2Proof.Machine.execBit2AtIXd d s
  | .bit3AtIXd d => Sys2Proof.Machine.execBit3AtIXd d s
  | .bit4AtIXd d => Sys2Proof.Machine.execBit4AtIXd d s
  | .bit5AtIXd d => Sys2Proof.Machine.execBit5AtIXd d s
  | .bit6AtIXd d => Sys2Proof.Machine.execBit6AtIXd d s
  | .bit7AtIXd d => Sys2Proof.Machine.execBit7AtIXd d s
  | .bit0AtIYd d => Sys2Proof.Machine.execBit0AtIYd d s
  | .bit1AtIYd d => Sys2Proof.Machine.execBit1AtIYd d s
  | .bit2AtIYd d => Sys2Proof.Machine.execBit2AtIYd d s
  | .bit3AtIYd d => Sys2Proof.Machine.execBit3AtIYd d s
  | .bit4AtIYd d => Sys2Proof.Machine.execBit4AtIYd d s
  | .bit5AtIYd d => Sys2Proof.Machine.execBit5AtIYd d s
  | .bit6AtIYd d => Sys2Proof.Machine.execBit6AtIYd d s
  | .bit7AtIYd d => Sys2Proof.Machine.execBit7AtIYd d s
  | .bit0B => Sys2Proof.Machine.execBit0B s
  | .bit0C => Sys2Proof.Machine.execBit0C s
  | .bit0D => Sys2Proof.Machine.execBit0D s
  | .bit0E => Sys2Proof.Machine.execBit0E s
  | .bit0H => Sys2Proof.Machine.execBit0H s
  | .bit0L => Sys2Proof.Machine.execBit0L s
  | .bit0A => Sys2Proof.Machine.execBit0A s
  | .bit1B => Sys2Proof.Machine.execBit1B s
  | .bit1C => Sys2Proof.Machine.execBit1C s
  | .bit1D => Sys2Proof.Machine.execBit1D s
  | .bit1E => Sys2Proof.Machine.execBit1E s
  | .bit1H => Sys2Proof.Machine.execBit1H s
  | .bit1L => Sys2Proof.Machine.execBit1L s
  | .bit1A => Sys2Proof.Machine.execBit1A s
  | .bit2B => Sys2Proof.Machine.execBit2B s
  | .bit2C => Sys2Proof.Machine.execBit2C s
  | .bit2D => Sys2Proof.Machine.execBit2D s
  | .bit2E => Sys2Proof.Machine.execBit2E s
  | .bit2H => Sys2Proof.Machine.execBit2H s
  | .bit2L => Sys2Proof.Machine.execBit2L s
  | .bit2A => Sys2Proof.Machine.execBit2A s
  | .bit3B => Sys2Proof.Machine.execBit3B s
  | .bit3C => Sys2Proof.Machine.execBit3C s
  | .bit3D => Sys2Proof.Machine.execBit3D s
  | .bit3E => Sys2Proof.Machine.execBit3E s
  | .bit3H => Sys2Proof.Machine.execBit3H s
  | .bit3L => Sys2Proof.Machine.execBit3L s
  | .bit3A => Sys2Proof.Machine.execBit3A s
  | .bit4B => Sys2Proof.Machine.execBit4B s
  | .bit4C => Sys2Proof.Machine.execBit4C s
  | .bit4D => Sys2Proof.Machine.execBit4D s
  | .bit4E => Sys2Proof.Machine.execBit4E s
  | .bit4H => Sys2Proof.Machine.execBit4H s
  | .bit4L => Sys2Proof.Machine.execBit4L s
  | .bit4A => Sys2Proof.Machine.execBit4A s
  | .bit5B => Sys2Proof.Machine.execBit5B s
  | .bit5C => Sys2Proof.Machine.execBit5C s
  | .bit5D => Sys2Proof.Machine.execBit5D s
  | .bit5E => Sys2Proof.Machine.execBit5E s
  | .bit5H => Sys2Proof.Machine.execBit5H s
  | .bit5L => Sys2Proof.Machine.execBit5L s
  | .bit5A => Sys2Proof.Machine.execBit5A s
  | .bit6B => Sys2Proof.Machine.execBit6B s
  | .bit6C => Sys2Proof.Machine.execBit6C s
  | .bit6D => Sys2Proof.Machine.execBit6D s
  | .bit6E => Sys2Proof.Machine.execBit6E s
  | .bit6H => Sys2Proof.Machine.execBit6H s
  | .bit6L => Sys2Proof.Machine.execBit6L s
  | .bit6A => Sys2Proof.Machine.execBit6A s
  | .bit7B => Sys2Proof.Machine.execBit7B s
  | .bit7C => Sys2Proof.Machine.execBit7C s
  | .bit7D => Sys2Proof.Machine.execBit7D s
  | .bit7E => Sys2Proof.Machine.execBit7E s
  | .bit7H => Sys2Proof.Machine.execBit7H s
  | .bit7L => Sys2Proof.Machine.execBit7L s
  | .bit7A => Sys2Proof.Machine.execBit7A s
  | .boolHL => Sys2Proof.Machine.execBoolHL s
  | .boolIX => Sys2Proof.Machine.execBoolIX s
  | .boolIY => Sys2Proof.Machine.execBoolIY s
  | .callmn mn => Sys2Proof.Machine.execCallmn mn s
  | .ccf => Sys2Proof.Machine.execCcf s
  | .cpAtHL => Sys2Proof.Machine.execCpAtHL s
  | .cpAtIXd d => Sys2Proof.Machine.execCpAtIXd d s
  | .cpAtIYd d => Sys2Proof.Machine.execCpAtIYd d s
  | .cpn n => Sys2Proof.Machine.execCpn n s
  | .cpB => Sys2Proof.Machine.execCpB s
  | .cpC => Sys2Proof.Machine.execCpC s
  | .cpD => Sys2Proof.Machine.execCpD s
  | .cpE => Sys2Proof.Machine.execCpE s
  | .cpH => Sys2Proof.Machine.execCpH s
  | .cpL => Sys2Proof.Machine.execCpL s
  | .cpA => Sys2Proof.Machine.execCpA s
  | .cpl => Sys2Proof.Machine.execCpl s
  | .decAtHL => Sys2Proof.Machine.execDecAtHL s
  | .decAtIXd d => Sys2Proof.Machine.execDecAtIXd d s
  | .decAtIYd d => Sys2Proof.Machine.execDecAtIYd d s
  | .decIX => Sys2Proof.Machine.execDecIX s
  | .decIY => Sys2Proof.Machine.execDecIY s
  | .decB => Sys2Proof.Machine.execDecB s
  | .decC => Sys2Proof.Machine.execDecC s
  | .decD => Sys2Proof.Machine.execDecD s
  | .decE => Sys2Proof.Machine.execDecE s
  | .decH => Sys2Proof.Machine.execDecH s
  | .decL => Sys2Proof.Machine.execDecL s
  | .decA => Sys2Proof.Machine.execDecA s
  | .decBC => Sys2Proof.Machine.execDecBC s
  | .decDE => Sys2Proof.Machine.execDecDE s
  | .decHL => Sys2Proof.Machine.execDecHL s
  | .decSP => Sys2Proof.Machine.execDecSP s
  | .djnze k => Sys2Proof.Machine.execDjnze k s
  | .exAtSPHL => Sys2Proof.Machine.execExAtSPHL s
  | .exAtSPIX => Sys2Proof.Machine.execExAtSPIX s
  | .exAtSPIY => Sys2Proof.Machine.execExAtSPIY s
  | .exAFAFalt => Sys2Proof.Machine.execExAFAFalt s
  | .exDEHL => Sys2Proof.Machine.execExDEHL s
  | .exDEaltHL => Sys2Proof.Machine.execExDEaltHL s
  | .exx => Sys2Proof.Machine.execExx s
  | .incAtHL => Sys2Proof.Machine.execIncAtHL s
  | .incAtIXd d => Sys2Proof.Machine.execIncAtIXd d s
  | .incAtIYd d => Sys2Proof.Machine.execIncAtIYd d s
  | .incIX => Sys2Proof.Machine.execIncIX s
  | .incIY => Sys2Proof.Machine.execIncIY s
  | .incB => Sys2Proof.Machine.execIncB s
  | .incC => Sys2Proof.Machine.execIncC s
  | .incD => Sys2Proof.Machine.execIncD s
  | .incE => Sys2Proof.Machine.execIncE s
  | .incH => Sys2Proof.Machine.execIncH s
  | .incL => Sys2Proof.Machine.execIncL s
  | .incA => Sys2Proof.Machine.execIncA s
  | .incBC => Sys2Proof.Machine.execIncBC s
  | .incDE => Sys2Proof.Machine.execIncDE s
  | .incHL => Sys2Proof.Machine.execIncHL s
  | .incSP => Sys2Proof.Machine.execIncSP s
  | .ioe => Sys2Proof.Machine.execIoe s
  | .ioi => Sys2Proof.Machine.execIoi s
  | .ipset0 => Sys2Proof.Machine.execIpset0 s
  | .ipset1 => Sys2Proof.Machine.execIpset1 s
  | .ipset2 => Sys2Proof.Machine.execIpset2 s
  | .ipset3 => Sys2Proof.Machine.execIpset3 s
  | .ipres => Sys2Proof.Machine.execIpres s
  | .jpAtHL => Sys2Proof.Machine.execJpAtHL s
  | .jpAtIX => Sys2Proof.Machine.execJpAtIX s
  | .jpAtIY => Sys2Proof.Machine.execJpAtIY s
  | .jpmn mn => Sys2Proof.Machine.execJpmn mn s
  | .jpNZmn mn => Sys2Proof.Machine.execJpNZmn mn s
  | .jpZmn mn => Sys2Proof.Machine.execJpZmn mn s
  | .jpNCmn mn => Sys2Proof.Machine.execJpNCmn mn s
  | .jpCmn mn => Sys2Proof.Machine.execJpCmn mn s
  | .jpLZmn mn => Sys2Proof.Machine.execJpLZmn mn s
  | .jpLOmn mn => Sys2Proof.Machine.execJpLOmn mn s
  | .jpPmn mn => Sys2Proof.Machine.execJpPmn mn s
  | .jpMmn mn => Sys2Proof.Machine.execJpMmn mn s
  | .jrNZe k => Sys2Proof.Machine.execJrNZe k s
  | .jrZe k => Sys2Proof.Machine.execJrZe k s
  | .jrNCe k => Sys2Proof.Machine.execJrNCe k s
  | .jrCe k => Sys2Proof.Machine.execJrCe k s
  | .jre k => Sys2Proof.Machine.execJre k s
  | .lcallxmn x mn => Sys2Proof.Machine.execLcallxmn x mn s
  | .ldAtBCA => Sys2Proof.Machine.execLdAtBCA s
  | .ldAtDEA => Sys2Proof.Machine.execLdAtDEA s
  | .ldAtHLn n => Sys2Proof.Machine.execLdAtHLn n s
  | .ldAtHLB => Sys2Proof.Machine.execLdAtHLB s
  | .ldAtHLC => Sys2Proof.Machine.execLdAtHLC s
  | .ldAtHLD => Sys2Proof.Machine.execLdAtHLD s
  | .ldAtHLE => Sys2Proof.Machine.execLdAtHLE s
  | .ldAtHLH => Sys2Proof.Machine.execLdAtHLH s
  | .ldAtHLL => Sys2Proof.Machine.execLdAtHLL s
  | .ldAtHLA => Sys2Proof.Machine.execLdAtHLA s
  | .ldAtHLdHL d => Sys2Proof.Machine.execLdAtHLdHL d s
  | .ldAtIXdHL d => Sys2Proof.Machine.execLdAtIXdHL d s
  | .ldAtIXdn d n => Sys2Proof.Machine.execLdAtIXdn d n s
  | .ldAtIXdB d => Sys2Proof.Machine.execLdAtIXdB d s
  | .ldAtIXdC d => Sys2Proof.Machine.execLdAtIXdC d s
  | .ldAtIXdD d => Sys2Proof.Machine.execLdAtIXdD d s
  | .ldAtIXdE d => Sys2Proof.Machine.execLdAtIXdE d s
  | .ldAtIXdH d => Sys2Proof.Machine.execLdAtIXdH d s
  | .ldAtIXdL d => Sys2Proof.Machine.execLdAtIXdL d s
  | .ldAtIXdA d => Sys2Proof.Machine.execLdAtIXdA d s
  | .ldAtIYdHL d => Sys2Proof.Machine.execLdAtIYdHL d s
  | .ldAtIYdn d n => Sys2Proof.Machine.execLdAtIYdn d n s
  | .ldAtIYdB d => Sys2Proof.Machine.execLdAtIYdB d s
  | .ldAtIYdC d => Sys2Proof.Machine.execLdAtIYdC d s
  | .ldAtIYdD d => Sys2Proof.Machine.execLdAtIYdD d s
  | .ldAtIYdE d => Sys2Proof.Machine.execLdAtIYdE d s
  | .ldAtIYdH d => Sys2Proof.Machine.execLdAtIYdH d s
  | .ldAtIYdL d => Sys2Proof.Machine.execLdAtIYdL d s
  | .ldAtIYdA d => Sys2Proof.Machine.execLdAtIYdA d s
  | .ldAtmnA mn => Sys2Proof.Machine.execLdAtmnA mn s
  | .ldAtmnHL mn => Sys2Proof.Machine.execLdAtmnHL mn s
  | .ldAtmnIX mn => Sys2Proof.Machine.execLdAtmnIX mn s
  | .ldAtmnIY mn => Sys2Proof.Machine.execLdAtmnIY mn s
  | .ldAtmnBC mn => Sys2Proof.Machine.execLdAtmnBC mn s
  | .ldAtmnDE mn => Sys2Proof.Machine.execLdAtmnDE mn s
  | .ldAtmnHLed mn => Sys2Proof.Machine.execLdAtmnHLed mn s
  | .ldAtmnSP mn => Sys2Proof.Machine.execLdAtmnSP mn s
  | .ldAtSPnHL n => Sys2Proof.Machine.execLdAtSPnHL n s
  | .ldAtSPnIX n => Sys2Proof.Machine.execLdAtSPnIX n s
  | .ldAtSPnIY n => Sys2Proof.Machine.execLdAtSPnIY n s
  | .ldAAtBC => Sys2Proof.Machine.execLdAAtBC s
  | .ldAAtDE => Sys2Proof.Machine.execLdAAtDE s
  | .ldAAtmn mn => Sys2Proof.Machine.execLdAAtmn mn s
  | .ldAEIR => Sys2Proof.Machine.execLdAEIR s
  | .ldAIIR => Sys2Proof.Machine.execLdAIIR s
  | .ldAXPC => Sys2Proof.Machine.execLdAXPC s
  | .ldBCAtmn mn => Sys2Proof.Machine.execLdBCAtmn mn s
  | .ldDEAtmn mn => Sys2Proof.Machine.execLdDEAtmn mn s
  | .ldSPAtmn mn => Sys2Proof.Machine.execLdSPAtmn mn s
  | .ldHLAtmn mn => Sys2Proof.Machine.execLdHLAtmn mn s
  | .ldBCaltBC => Sys2Proof.Machine.execLdBCaltBC s
  | .ldDEaltBC => Sys2Proof.Machine.execLdDEaltBC s
  | .ldHLaltBC => Sys2Proof.Machine.execLdHLaltBC s
  | .ldBCaltDE => Sys2Proof.Machine.execLdBCaltDE s
  | .ldDEaltDE => Sys2Proof.Machine.execLdDEaltDE s
  | .ldHLaltDE => Sys2Proof.Machine.execLdHLaltDE s
  | .ldBCmn mn => Sys2Proof.Machine.execLdBCmn mn s
  | .ldDEmn mn => Sys2Proof.Machine.execLdDEmn mn s
  | .ldHLmn mn => Sys2Proof.Machine.execLdHLmn mn s
  | .ldSPmn mn => Sys2Proof.Machine.execLdSPmn mn s
  | .ldEIRA => Sys2Proof.Machine.execLdEIRA s
  | .ldIIRA => Sys2Proof.Machine.execLdIIRA s
  | .ldHLAtHLd d => Sys2Proof.Machine.execLdHLAtHLd d s
  | .ldHLAtIXd d => Sys2Proof.Machine.execLdHLAtIXd d s
  | .ldHLAtIYd d => Sys2Proof.Machine.execLdHLAtIYd d s
  | .ldHLAtSPn n => Sys2Proof.Machine.execLdHLAtSPn n s
  | .ldHLIX => Sys2Proof.Machine.execLdHLIX s
  | .ldHLIY => Sys2Proof.Machine.execLdHLIY s
  | .ldIXAtmn mn => Sys2Proof.Machine.execLdIXAtmn mn s
  | .ldIXAtSPn n => Sys2Proof.Machine.execLdIXAtSPn n s
  | .ldIXHL => Sys2Proof.Machine.execLdIXHL s
  | .ldIXmn mn => Sys2Proof.Machine.execLdIXmn mn s
  | .ldIYHL => Sys2Proof.Machine.execLdIYHL s
  | .ldIYmn mn => Sys2Proof.Machine.execLdIYmn mn s
  | .ldIYAtmn mn => Sys2Proof.Machine.execLdIYAtmn mn s
  | .ldIYAtSPn n => Sys2Proof.Machine.execLdIYAtSPn n s
  | .ldBAtHL => Sys2Proof.Machine.execLdBAtHL s
  | .ldCAtHL => Sys2Proof.Machine.execLdCAtHL s
  | .ldDAtHL => Sys2Proof.Machine.execLdDAtHL s
  | .ldEAtHL => Sys2Proof.Machine.execLdEAtHL s
  | .ldHAtHL => Sys2Proof.Machine.execLdHAtHL s
  | .ldLAtHL => Sys2Proof.Machine.execLdLAtHL s
  | .ldAAtHL => Sys2Proof.Machine.execLdAAtHL s
  | .ldBAtIXd d => Sys2Proof.Machine.execLdBAtIXd d s
  | .ldCAtIXd d => Sys2Proof.Machine.execLdCAtIXd d s
  | .ldDAtIXd d => Sys2Proof.Machine.execLdDAtIXd d s
  | .ldEAtIXd d => Sys2Proof.Machine.execLdEAtIXd d s
  | .ldHAtIXd d => Sys2Proof.Machine.execLdHAtIXd d s
  | .ldLAtIXd d => Sys2Proof.Machine.execLdLAtIXd d s
  | .ldAAtIXd d => Sys2Proof.Machine.execLdAAtIXd d s
  | .ldBAtIYd d => Sys2Proof.Machine.execLdBAtIYd d s
  | .ldCAtIYd d => Sys2Proof.Machine.execLdCAtIYd d s
  | .ldDAtIYd d => Sys2Proof.Machine.execLdDAtIYd d s
  | .ldEAtIYd d => Sys2Proof.Machine.execLdEAtIYd d s
  | .ldHAtIYd d => Sys2Proof.Machine.execLdHAtIYd d s
  | .ldLAtIYd d => Sys2Proof.Machine.execLdLAtIYd d s
  | .ldAAtIYd d => Sys2Proof.Machine.execLdAAtIYd d s
  | .ldBn n => Sys2Proof.Machine.execLdBn n s
  | .ldCn n => Sys2Proof.Machine.execLdCn n s
  | .ldDn n => Sys2Proof.Machine.execLdDn n s
  | .ldEn n => Sys2Proof.Machine.execLdEn n s
  | .ldHn n => Sys2Proof.Machine.execLdHn n s
  | .ldLn n => Sys2Proof.Machine.execLdLn n s
  | .ldAn n => Sys2Proof.Machine.execLdAn n s
  | .ldBB => Sys2Proof.Machine.execLdBB s
  | .ldBC => Sys2Proof.Machine.execLdBC s
  | .ldBD => Sys2Proof.Machine.execLdBD s
  | .ldBE => Sys2Proof.Machine.execLdBE s
  | .ldBH => Sys2Proof.Machine.execLdBH s
  | .ldBL => Sys2Proof.Machine.execLdBL s
  | .ldBA => Sys2Proof.Machine.execLdBA s
  | .ldCB => Sys2Proof.Machine.execLdCB s
  | .ldCC => Sys2Proof.Machine.execLdCC s
  | .ldCD => Sys2Proof.Machine.execLdCD s
  | .ldCE => Sys2Proof.Machine.execLdCE s
  | .ldCH => Sys2Proof.Machine.execLdCH s
  | .ldCL => Sys2Proof.Machine.execLdCL s
  | .ldCA => Sys2Proof.Machine.execLdCA s
  | .ldDB => Sys2Proof.Machine.execLdDB s
  | .ldDC => Sys2Proof.Machine.execLdDC s
  | .ldDD => Sys2Proof.Machine.execLdDD s
  | .ldDE => Sys2Proof.Machine.execLdDE s
  | .ldDH => Sys2Proof.Machine.execLdDH s
  | .ldDL => Sys2Proof.Machine.execLdDL s
  | .ldDA => Sys2Proof.Machine.execLdDA s
  | .ldEB => Sys2Proof.Machine.execLdEB s
  | .ldEC => Sys2Proof.Machine.execLdEC s
  | .ldED => Sys2Proof.Machine.execLdED s
  | .ldEE => Sys2Proof.Machine.execLdEE s
  | .ldEH => Sys2Proof.Machine.execLdEH s
  | .ldEL => Sys2Proof.Machine.execLdEL s
  | .ldEA => Sys2Proof.Machine.execLdEA s
  | .ldHB => Sys2Proof.Machine.execLdHB s
  | .ldHC => Sys2Proof.Machine.execLdHC s
  | .ldHD => Sys2Proof.Machine.execLdHD s
  | .ldHE => Sys2Proof.Machine.execLdHE s
  | .ldHH => Sys2Proof.Machine.execLdHH s
  | .ldHL => Sys2Proof.Machine.execLdHL s
  | .ldHA => Sys2Proof.Machine.execLdHA s
  | .ldLB => Sys2Proof.Machine.execLdLB s
  | .ldLC => Sys2Proof.Machine.execLdLC s
  | .ldLD => Sys2Proof.Machine.execLdLD s
  | .ldLE => Sys2Proof.Machine.execLdLE s
  | .ldLH => Sys2Proof.Machine.execLdLH s
  | .ldLL => Sys2Proof.Machine.execLdLL s
  | .ldLA => Sys2Proof.Machine.execLdLA s
  | .ldAB => Sys2Proof.Machine.execLdAB s
  | .ldAC => Sys2Proof.Machine.execLdAC s
  | .ldAD => Sys2Proof.Machine.execLdAD s
  | .ldAE => Sys2Proof.Machine.execLdAE s
  | .ldAH => Sys2Proof.Machine.execLdAH s
  | .ldAL => Sys2Proof.Machine.execLdAL s
  | .ldAA => Sys2Proof.Machine.execLdAA s
  | .ldSPHL => Sys2Proof.Machine.execLdSPHL s
  | .ldSPIX => Sys2Proof.Machine.execLdSPIX s
  | .ldSPIY => Sys2Proof.Machine.execLdSPIY s
  | .ldXPCA => Sys2Proof.Machine.execLdXPCA s
  | .ldd => Sys2Proof.Machine.execLdd s
  | .lddr => Sys2Proof.Machine.execLddr s
  | .ldi => Sys2Proof.Machine.execLdi s
  | .ldir => Sys2Proof.Machine.execLdir s

end Sys2Proof.Machine
end

