-- ==== Sys2Proof/WellFormed.lean ====
section
/-! DEFINITION. Which instructions the spec gives a form to: the operand range of `LCALL`, and how prefixes may stand
before a core (`30_encoding.md` R110, R115, R116). -/

namespace Sys2Proof

/-- Is the row one of the prefixes ALTD, IOI, IOE (format PFX, R111)? -/
def Instr.isPfx : Instr → Bool
  | .altd => true
  | .ioi => true
  | .ioe => true
  | _ => false

/-- Is the row one of the I/O prefixes (R114)? -/
def Instr.isIoPfx : Instr → Bool
  | .ioi => true
  | .ioe => true
  | _ => false

/-- "The value mn must be in the range E000-FFFF" (`44_jp_jr_lcall.md` R292). Every other operand field admits every
value of its bits. -/
def Instr.wf : Instr → Bool
  | .lcallxmn _ mn => 0xE000#16 ≤ mn
  | _ => true

/-- Only prefix rows stand before the core, and the core is no prefix row (R110, R116). -/
def Prefixed.rowsWf (p : Prefixed) : Bool := p.pfx.all Instr.isPfx && !p.core.isPfx

/-- At most one ALTD (R115). -/
def Prefixed.altdWf (p : Prefixed) : Bool := p.pfx.count .altd ≤ 1

/-- At most one of IOI and IOE (R115). -/
def Prefixed.ioWf (p : Prefixed) : Bool := p.pfx.countP Instr.isIoPfx ≤ 1

/-- The prefixes are rows that may stand there, at most one ALTD and one I/O prefix, and the core is well formed. -/
def Prefixed.wf (p : Prefixed) : Bool := p.rowsWf && p.altdWf && p.ioWf && p.core.wf

end Sys2Proof
end

