-- ==== Sys2Proof/Decode.lean ====
section
/-! DEFINITION. The decoder (`spec/30_encoding.md` R110 to R134), then the encoder, each written from the encoding
tables of the spec: the decoder from the opcode map by page (R126 to R130), the encoder from the rows of
`spec/opcode_table.json`. -/

namespace Sys2Proof

open Machine (word hi lo)

/-! ## Formats (R111) -/

/-- What follows the opcode bytes of a row: its operand bytes, in fetch order (R111). -/
inductive Shape where
  /-- No operand byte: formats I, CB, ED, XY, PFX. -/
  | none (i : Instr)
  /-- One byte: formats N, D, E, XY_D, XY_N. -/
  | byte (f : Byte → Instr)
  /-- `n m`, the low byte first: formats NM, ED_NM, XY_NM (R121). -/
  | word (f : Word → Instr)
  /-- `n m x`: format NMX. -/
  | wordByte (f : Byte → Word → Instr)
  /-- `d n`: format XY_DN. -/
  | bytes (f : Byte → Byte → Instr)

/-- What a row of the opcode table is read as. -/
inductive RowResult where
  /-- The row's instruction, and the bytes after it. -/
  | row (i : Instr) (rest : List Byte)
  /-- No row has these opcode bytes (R131). -/
  | notInSource
  /-- The bytes end before the row does. -/
  | truncated
deriving DecidableEq, Repr

/-- Fetch the operand bytes a format names (R112 step 3). -/
def Shape.read : Shape → List Byte → RowResult
  | .none i, t => .row i t
  | .byte f, n :: t => .row (f n) t
  | .word f, n :: m :: t => .row (f (Machine.word m n)) t
  | .wordByte f, n :: m :: x :: t => .row (f x (Machine.word m n)) t
  | .bytes f, d :: n :: t => .row (f d n) t
  | _, _ => .truncated

/-! ## The opcode map by page (R126 to R130): opcode byte, format and row -/

/-- Main page, opcodes 00 to 0F (R126). -/
def mainRow0 : List (Nat × Shape) :=
  [(0x01, .word .ldBCmn), (0x02, .none .ldAtBCA), (0x03, .none .incBC), (0x04, .none .incB),
   (0x05, .none .decB), (0x06, .byte .ldBn), (0x08, .none .exAFAFalt), (0x09, .none .addHLBC),
   (0x0A, .none .ldAAtBC), (0x0B, .none .decBC), (0x0C, .none .incC), (0x0D, .none .decC),
   (0x0E, .byte .ldCn)]

/-- Main page, opcodes 10 to 1F (R126). -/
def mainRow1 : List (Nat × Shape) :=
  [(0x10, .byte .djnze), (0x11, .word .ldDEmn), (0x12, .none .ldAtDEA), (0x13, .none .incDE),
   (0x14, .none .incD), (0x15, .none .decD), (0x16, .byte .ldDn), (0x18, .byte .jre),
   (0x19, .none .addHLDE), (0x1A, .none .ldAAtDE), (0x1B, .none .decDE), (0x1C, .none .incE),
   (0x1D, .none .decE), (0x1E, .byte .ldEn)]

/-- Main page, opcodes 20 to 2F (R126). -/
def mainRow2 : List (Nat × Shape) :=
  [(0x20, .byte .jrNZe), (0x21, .word .ldHLmn), (0x22, .word .ldAtmnHL), (0x23, .none .incHL),
   (0x24, .none .incH), (0x25, .none .decH), (0x26, .byte .ldHn), (0x27, .byte .addSPd),
   (0x28, .byte .jrZe), (0x29, .none .addHLHL), (0x2A, .word .ldHLAtmn), (0x2B, .none .decHL),
   (0x2C, .none .incL), (0x2D, .none .decL), (0x2E, .byte .ldLn), (0x2F, .none .cpl)]

/-- Main page, opcodes 30 to 3F (R126). -/
def mainRow3 : List (Nat × Shape) :=
  [(0x30, .byte .jrNCe), (0x31, .word .ldSPmn), (0x32, .word .ldAtmnA), (0x33, .none .incSP),
   (0x34, .none .incAtHL), (0x35, .none .decAtHL), (0x36, .byte .ldAtHLn), (0x38, .byte .jrCe),
   (0x39, .none .addHLSP), (0x3A, .word .ldAAtmn), (0x3B, .none .decSP), (0x3C, .none .incA),
   (0x3D, .none .decA), (0x3E, .byte .ldAn), (0x3F, .none .ccf)]

/-- Main page, opcodes 40 to 4F (R126). -/
def mainRow4 : List (Nat × Shape) :=
  [(0x40, .none .ldBB), (0x41, .none .ldBC), (0x42, .none .ldBD), (0x43, .none .ldBE),
   (0x44, .none .ldBH), (0x45, .none .ldBL), (0x46, .none .ldBAtHL), (0x47, .none .ldBA),
   (0x48, .none .ldCB), (0x49, .none .ldCC), (0x4A, .none .ldCD), (0x4B, .none .ldCE),
   (0x4C, .none .ldCH), (0x4D, .none .ldCL), (0x4E, .none .ldCAtHL), (0x4F, .none .ldCA)]

/-- Main page, opcodes 50 to 5F (R126). -/
def mainRow5 : List (Nat × Shape) :=
  [(0x50, .none .ldDB), (0x51, .none .ldDC), (0x52, .none .ldDD), (0x53, .none .ldDE),
   (0x54, .none .ldDH), (0x55, .none .ldDL), (0x56, .none .ldDAtHL), (0x57, .none .ldDA),
   (0x58, .none .ldEB), (0x59, .none .ldEC), (0x5A, .none .ldED), (0x5B, .none .ldEE),
   (0x5C, .none .ldEH), (0x5D, .none .ldEL), (0x5E, .none .ldEAtHL), (0x5F, .none .ldEA)]

/-- Main page, opcodes 60 to 6F (R126). -/
def mainRow6 : List (Nat × Shape) :=
  [(0x60, .none .ldHB), (0x61, .none .ldHC), (0x62, .none .ldHD), (0x63, .none .ldHE),
   (0x64, .none .ldHH), (0x65, .none .ldHL), (0x66, .none .ldHAtHL), (0x67, .none .ldHA),
   (0x68, .none .ldLB), (0x69, .none .ldLC), (0x6A, .none .ldLD), (0x6B, .none .ldLE),
   (0x6C, .none .ldLH), (0x6D, .none .ldLL), (0x6E, .none .ldLAtHL), (0x6F, .none .ldLA)]

/-- Main page, opcodes 70 to 7F (R126). -/
def mainRow7 : List (Nat × Shape) :=
  [(0x70, .none .ldAtHLB), (0x71, .none .ldAtHLC), (0x72, .none .ldAtHLD), (0x73, .none .ldAtHLE),
   (0x74, .none .ldAtHLH), (0x75, .none .ldAtHLL), (0x76, .none .altd), (0x77, .none .ldAtHLA),
   (0x78, .none .ldAB), (0x79, .none .ldAC), (0x7A, .none .ldAD), (0x7B, .none .ldAE),
   (0x7C, .none .ldAH), (0x7D, .none .ldAL), (0x7E, .none .ldAAtHL), (0x7F, .none .ldAA)]

/-- Main page, opcodes 80 to 8F (R126). -/
def mainRow8 : List (Nat × Shape) :=
  [(0x80, .none .addAB), (0x81, .none .addAC), (0x82, .none .addAD), (0x83, .none .addAE),
   (0x84, .none .addAH), (0x85, .none .addAL), (0x86, .none .addAAtHL), (0x87, .none .addAA),
   (0x88, .none .adcAB), (0x89, .none .adcAC), (0x8A, .none .adcAD), (0x8B, .none .adcAE),
   (0x8C, .none .adcAH), (0x8D, .none .adcAL), (0x8E, .none .adcAAtHL), (0x8F, .none .adcAA)]

/-- Main page, opcodes A0 to AF (R126). -/
def mainRowA : List (Nat × Shape) :=
  [(0xA0, .none .andB), (0xA1, .none .andC), (0xA2, .none .andD), (0xA3, .none .andE),
   (0xA4, .none .andH), (0xA5, .none .andL), (0xA6, .none .andAtHL), (0xA7, .none .andA)]

/-- Main page, opcodes B0 to BF (R126). -/
def mainRowB : List (Nat × Shape) :=
  [(0xB8, .none .cpB), (0xB9, .none .cpC), (0xBA, .none .cpD), (0xBB, .none .cpE),
   (0xBC, .none .cpH), (0xBD, .none .cpL), (0xBE, .none .cpAtHL), (0xBF, .none .cpA)]

/-- Main page, opcodes C0 to CF (R126). -/
def mainRowC : List (Nat × Shape) :=
  [(0xC2, .word .jpNZmn), (0xC3, .word .jpmn), (0xC4, .byte .ldHLAtSPn), (0xC6, .byte .addAn),
   (0xCA, .word .jpZmn), (0xCC, .none .boolHL), (0xCD, .word .callmn), (0xCE, .byte .adcAn),
   (0xCF, .wordByte .lcallxmn)]

/-- Main page, opcodes D0 to DF (R126). -/
def mainRowD : List (Nat × Shape) :=
  [(0xD2, .word .jpNCmn), (0xD3, .none .ioi), (0xD4, .byte .ldAtSPnHL), (0xD9, .none .exx),
   (0xDA, .word .jpCmn), (0xDB, .none .ioe), (0xDC, .none .andHLDE)]

/-- Main page, opcodes E0 to EF (R126). -/
def mainRowE : List (Nat × Shape) :=
  [(0xE2, .word .jpLZmn), (0xE3, .none .exDEaltHL), (0xE4, .byte .ldHLAtIXd), (0xE6, .byte .andn),
   (0xE9, .none .jpAtHL), (0xEA, .word .jpLOmn), (0xEB, .none .exDEHL)]

/-- Main page, opcodes F0 to FF (R126). -/
def mainRowF : List (Nat × Shape) :=
  [(0xF2, .word .jpPmn), (0xF4, .byte .ldAtIXdHL), (0xF9, .none .ldSPHL), (0xFA, .word .jpMmn),
   (0xFE, .byte .cpn)]

/-- The main page (R126), the three prefix rows among them. -/
def mainPage : List (Nat × Shape) :=
  mainRow0 ++ mainRow1 ++ mainRow2 ++ mainRow3 ++ mainRow4 ++ mainRow5 ++ mainRow6 ++ mainRow7 ++ mainRow8 ++ mainRowA ++ mainRowB ++ mainRowC ++ mainRowD ++ mainRowE ++ mainRowF

/-- The CB page: `01bbbrrr` (R127). -/
def cbPage : List (Nat × Shape) :=
  [(0x40, .none .bit0B), (0x41, .none .bit0C), (0x42, .none .bit0D), (0x43, .none .bit0E),
   (0x44, .none .bit0H), (0x45, .none .bit0L), (0x46, .none .bit0AtHL), (0x47, .none .bit0A),
   (0x48, .none .bit1B), (0x49, .none .bit1C), (0x4A, .none .bit1D), (0x4B, .none .bit1E),
   (0x4C, .none .bit1H), (0x4D, .none .bit1L), (0x4E, .none .bit1AtHL), (0x4F, .none .bit1A),
   (0x50, .none .bit2B), (0x51, .none .bit2C), (0x52, .none .bit2D), (0x53, .none .bit2E),
   (0x54, .none .bit2H), (0x55, .none .bit2L), (0x56, .none .bit2AtHL), (0x57, .none .bit2A),
   (0x58, .none .bit3B), (0x59, .none .bit3C), (0x5A, .none .bit3D), (0x5B, .none .bit3E),
   (0x5C, .none .bit3H), (0x5D, .none .bit3L), (0x5E, .none .bit3AtHL), (0x5F, .none .bit3A),
   (0x60, .none .bit4B), (0x61, .none .bit4C), (0x62, .none .bit4D), (0x63, .none .bit4E),
   (0x64, .none .bit4H), (0x65, .none .bit4L), (0x66, .none .bit4AtHL), (0x67, .none .bit4A),
   (0x68, .none .bit5B), (0x69, .none .bit5C), (0x6A, .none .bit5D), (0x6B, .none .bit5E),
   (0x6C, .none .bit5H), (0x6D, .none .bit5L), (0x6E, .none .bit5AtHL), (0x6F, .none .bit5A),
   (0x70, .none .bit6B), (0x71, .none .bit6C), (0x72, .none .bit6D), (0x73, .none .bit6E),
   (0x74, .none .bit6H), (0x75, .none .bit6L), (0x76, .none .bit6AtHL), (0x77, .none .bit6A),
   (0x78, .none .bit7B), (0x79, .none .bit7C), (0x7A, .none .bit7D), (0x7B, .none .bit7E),
   (0x7C, .none .bit7H), (0x7D, .none .bit7L), (0x7E, .none .bit7AtHL), (0x7F, .none .bit7A)]

/-- The ED page (R128). -/
def edPage : List (Nat × Shape) :=
  [(0x41, .none .ldBCaltDE), (0x43, .word .ldAtmnBC), (0x46, .none .ipset0), (0x47, .none .ldEIRA),
   (0x49, .none .ldBCaltBC), (0x4A, .none .adcHLBC), (0x4B, .word .ldBCAtmn), (0x4E, .none .ipset2),
   (0x4F, .none .ldIIRA), (0x51, .none .ldDEaltDE), (0x53, .word .ldAtmnDE), (0x54, .none .exAtSPHL),
   (0x56, .none .ipset1), (0x57, .none .ldAEIR), (0x59, .none .ldDEaltBC), (0x5A, .none .adcHLDE),
   (0x5B, .word .ldDEAtmn), (0x5D, .none .ipres), (0x5E, .none .ipset3), (0x5F, .none .ldAIIR),
   (0x61, .none .ldHLaltDE), (0x63, .word .ldAtmnHLed), (0x67, .none .ldXPCA), (0x69, .none .ldHLaltBC),
   (0x6A, .none .adcHLHL), (0x73, .word .ldAtmnSP), (0x77, .none .ldAXPC), (0x7A, .none .adcHLSP),
   (0x7B, .word .ldSPAtmn), (0xA0, .none .ldi), (0xA8, .none .ldd), (0xB0, .none .ldir),
   (0xB8, .none .lddr)]

/-- The DD page, IX (R129). -/
def ddPage : List (Nat × Shape) :=
  [(0x09, .none .addIXBC), (0x19, .none .addIXDE), (0x29, .none .addIXIX), (0x39, .none .addIXSP),
   (0x21, .word .ldIXmn), (0x22, .word .ldAtmnIX), (0x23, .none .incIX), (0x2A, .word .ldIXAtmn),
   (0x2B, .none .decIX), (0x34, .byte .incAtIXd), (0x35, .byte .decAtIXd), (0x36, .bytes .ldAtIXdn),
   (0x46, .byte .ldBAtIXd), (0x4E, .byte .ldCAtIXd), (0x56, .byte .ldDAtIXd), (0x5E, .byte .ldEAtIXd),
   (0x66, .byte .ldHAtIXd), (0x6E, .byte .ldLAtIXd), (0x7E, .byte .ldAAtIXd), (0x70, .byte .ldAtIXdB),
   (0x71, .byte .ldAtIXdC), (0x72, .byte .ldAtIXdD), (0x73, .byte .ldAtIXdE), (0x74, .byte .ldAtIXdH),
   (0x75, .byte .ldAtIXdL), (0x77, .byte .ldAtIXdA), (0x7C, .none .ldHLIX), (0x7D, .none .ldIXHL),
   (0x86, .byte .addAAtIXd), (0x8E, .byte .adcAAtIXd), (0xA6, .byte .andAtIXd), (0xBE, .byte .cpAtIXd),
   (0xC4, .byte .ldIXAtSPn), (0xCC, .none .boolIX), (0xD4, .byte .ldAtSPnIX), (0xDC, .none .andIXDE),
   (0xE3, .none .exAtSPIX), (0xE4, .byte .ldHLAtHLd), (0xE9, .none .jpAtIX), (0xF4, .byte .ldAtHLdHL),
   (0xF9, .none .ldSPIX)]

/-- The FD page, IY (R129). -/
def fdPage : List (Nat × Shape) :=
  [(0x09, .none .addIYBC), (0x19, .none .addIYDE), (0x29, .none .addIYIY), (0x39, .none .addIYSP),
   (0x21, .word .ldIYmn), (0x22, .word .ldAtmnIY), (0x23, .none .incIY), (0x2A, .word .ldIYAtmn),
   (0x2B, .none .decIY), (0x34, .byte .incAtIYd), (0x35, .byte .decAtIYd), (0x36, .bytes .ldAtIYdn),
   (0x46, .byte .ldBAtIYd), (0x4E, .byte .ldCAtIYd), (0x56, .byte .ldDAtIYd), (0x5E, .byte .ldEAtIYd),
   (0x66, .byte .ldHAtIYd), (0x6E, .byte .ldLAtIYd), (0x7E, .byte .ldAAtIYd), (0x70, .byte .ldAtIYdB),
   (0x71, .byte .ldAtIYdC), (0x72, .byte .ldAtIYdD), (0x73, .byte .ldAtIYdE), (0x74, .byte .ldAtIYdH),
   (0x75, .byte .ldAtIYdL), (0x77, .byte .ldAtIYdA), (0x7C, .none .ldHLIY), (0x7D, .none .ldIYHL),
   (0x86, .byte .addAAtIYd), (0x8E, .byte .adcAAtIYd), (0xA6, .byte .andAtIYd), (0xBE, .byte .cpAtIYd),
   (0xC4, .byte .ldIYAtSPn), (0xCC, .none .boolIY), (0xD4, .byte .ldAtSPnIY), (0xDC, .none .andIYDE),
   (0xE3, .none .exAtSPIY), (0xE4, .byte .ldHLAtIYd), (0xE9, .none .jpAtIY), (0xF4, .byte .ldAtIYdHL),
   (0xF9, .none .ldSPIY)]

/-- `DD CB d op3` (R130). -/
def ddCbPage : List (Nat × (Byte → Instr)) :=
  [(0x46, .bit0AtIXd), (0x4E, .bit1AtIXd), (0x56, .bit2AtIXd), (0x5E, .bit3AtIXd),
   (0x66, .bit4AtIXd), (0x6E, .bit5AtIXd), (0x76, .bit6AtIXd), (0x7E, .bit7AtIXd)]

/-- `FD CB d op3` (R130). -/
def fdCbPage : List (Nat × (Byte → Instr)) :=
  [(0x46, .bit0AtIYd), (0x4E, .bit1AtIYd), (0x56, .bit2AtIYd), (0x5E, .bit3AtIYd),
   (0x66, .bit4AtIYd), (0x6E, .bit5AtIYd), (0x76, .bit6AtIYd), (0x7E, .bit7AtIYd)]

/-! ## Reading one row (R112 steps 2 to 4) -/

/-- Decode an opcode byte on a page, then fetch the row's operand bytes. -/
def readOn (page : List (Nat × Shape)) : List Byte → RowResult
  | [] => .truncated
  | b :: t =>
    match page.lookup b.toNat with
    | some sh => sh.read t
    | none => .notInSource

/-- `CB d op3` after a DD or FD byte: the displacement stands before the last opcode byte (R112, R130). -/
def readXyCb (page : List (Nat × (Byte → Instr))) : List Byte → RowResult
  | d :: b3 :: t =>
    match page.lookup b3.toNat with
    | some f => .row (f d) t
    | none => .notInSource
  | _ => .truncated

/-- The DD or the FD page (R112, R129). -/
def readXy (page : List (Nat × Shape)) (cbp : List (Nat × (Byte → Instr))) : List Byte → RowResult
  | [] => .truncated
  | b1 :: t => if b1 = 0xCB#8 then readXyCb cbp t else readOn page (b1 :: t)

/-- Read one row of the opcode table from the front of the bytes (R112 steps 2 to 4); a prefix byte is read as its
own row (format PFX). -/
def readRow : List Byte → RowResult
  | [] => .truncated
  | b0 :: t =>
    if b0 = 0xCB#8 then readOn cbPage t
    else if b0 = 0xED#8 then readOn edPage t
    else if b0 = 0xDD#8 then readXy ddPage ddCbPage t
    else if b0 = 0xFD#8 then readXy fdPage fdCbPage t
    else readOn mainPage (b0 :: t)

/-! ## Decoding an instruction with its prefixes (R112, R115) -/

/-- What the bytes at an instruction's first byte decode to. -/
inductive Decoded where
  /-- An instruction with its prefixes, and the bytes after it. -/
  | instr (p : Prefixed) (rest : List Byte)
  /-- "Encoding not in source" (R131). -/
  | notInSource
  /-- "Prefix combination" (R115). -/
  | badPrefixes
  /-- The bytes end before the instruction does. -/
  | truncated
deriving DecidableEq, Repr

/-- The opcode byte of ALTD (R113). -/
def altdByte : Byte := 0x76#8

/-- The opcode byte of IOI (R114). -/
def ioiByte : Byte := 0xD3#8

/-- The parameter `IOE_BYTE` (R114, decision D1). PRESUMED, log 9. -/
def ioeByte : Byte := 0xDB#8

/-- Put a prefix row before what follows it. -/
def Decoded.addPfx (i : Instr) : Decoded → Decoded
  | .instr p rest => .instr ⟨i :: p.pfx, p.core⟩ rest
  | d => d

/-- The core after the prefixes. -/
def decodeCore (bs : List Byte) : Decoded :=
  match readRow bs with
  | .row i rest => .instr ⟨[], i⟩ rest
  | .notInSource => .notInSource
  | .truncated => .truncated

/-- The prefix loop of R112 step 1, then the core. `a` and `io`: an ALTD, an I/O prefix was seen already. -/
def decodeFrom (a io : Bool) : List Byte → Decoded
  | [] => .truncated
  | b :: t =>
    if b = altdByte then
      if a then .badPrefixes else (decodeFrom true io t).addPfx .altd
    else if b = ioiByte then
      if io then .badPrefixes else (decodeFrom a true t).addPfx .ioi
    else if b = ioeByte then
      if io then .badPrefixes else (decodeFrom a true t).addPfx .ioe
    else decodeCore (b :: t)

/-- Decode the bytes from an instruction's first byte on (R112). -/
def decode (bs : List Byte) : Decoded := decodeFrom false false bs

/-! ## The encoder -/

/-- The bytes of a row in fetch order, from the `encoding` column of `spec/opcode_table.json` (R144). -/
def encode : Instr → List Byte
  | .adcAAtHL => [0x8E]
  | .adcAAtIXd d => [0xDD, 0x8E, d]
  | .adcAAtIYd d => [0xFD, 0x8E, d]
  | .adcAn n => [0xCE, n]
  | .adcAB => [0x88]
  | .adcAC => [0x89]
  | .adcAD => [0x8A]
  | .adcAE => [0x8B]
  | .adcAH => [0x8C]
  | .adcAL => [0x8D]
  | .adcAA => [0x8F]
  | .adcHLBC => [0xED, 0x4A]
  | .adcHLDE => [0xED, 0x5A]
  | .adcHLHL => [0xED, 0x6A]
  | .adcHLSP => [0xED, 0x7A]
  | .addAAtHL => [0x86]
  | .addAAtIXd d => [0xDD, 0x86, d]
  | .addAAtIYd d => [0xFD, 0x86, d]
  | .addAn n => [0xC6, n]
  | .addAB => [0x80]
  | .addAC => [0x81]
  | .addAD => [0x82]
  | .addAE => [0x83]
  | .addAH => [0x84]
  | .addAL => [0x85]
  | .addAA => [0x87]
  | .addHLBC => [0x09]
  | .addHLDE => [0x19]
  | .addHLHL => [0x29]
  | .addHLSP => [0x39]
  | .addIXBC => [0xDD, 0x09]
  | .addIXDE => [0xDD, 0x19]
  | .addIXIX => [0xDD, 0x29]
  | .addIXSP => [0xDD, 0x39]
  | .addIYBC => [0xFD, 0x09]
  | .addIYDE => [0xFD, 0x19]
  | .addIYIY => [0xFD, 0x29]
  | .addIYSP => [0xFD, 0x39]
  | .addSPd d => [0x27, d]
  | .altd => [0x76]
  | .andAtHL => [0xA6]
  | .andAtIXd d => [0xDD, 0xA6, d]
  | .andAtIYd d => [0xFD, 0xA6, d]
  | .andHLDE => [0xDC]
  | .andIXDE => [0xDD, 0xDC]
  | .andIYDE => [0xFD, 0xDC]
  | .andn n => [0xE6, n]
  | .andB => [0xA0]
  | .andC => [0xA1]
  | .andD => [0xA2]
  | .andE => [0xA3]
  | .andH => [0xA4]
  | .andL => [0xA5]
  | .andA => [0xA7]
  | .bit0AtHL => [0xCB, 0x46]
  | .bit1AtHL => [0xCB, 0x4E]
  | .bit2AtHL => [0xCB, 0x56]
  | .bit3AtHL => [0xCB, 0x5E]
  | .bit4AtHL => [0xCB, 0x66]
  | .bit5AtHL => [0xCB, 0x6E]
  | .bit6AtHL => [0xCB, 0x76]
  | .bit7AtHL => [0xCB, 0x7E]
  | .bit0AtIXd d => [0xDD, 0xCB, d, 0x46]
  | .bit1AtIXd d => [0xDD, 0xCB, d, 0x4E]
  | .bit2AtIXd d => [0xDD, 0xCB, d, 0x56]
  | .bit3AtIXd d => [0xDD, 0xCB, d, 0x5E]
  | .bit4AtIXd d => [0xDD, 0xCB, d, 0x66]
  | .bit5AtIXd d => [0xDD, 0xCB, d, 0x6E]
  | .bit6AtIXd d => [0xDD, 0xCB, d, 0x76]
  | .bit7AtIXd d => [0xDD, 0xCB, d, 0x7E]
  | .bit0AtIYd d => [0xFD, 0xCB, d, 0x46]
  | .bit1AtIYd d => [0xFD, 0xCB, d, 0x4E]
  | .bit2AtIYd d => [0xFD, 0xCB, d, 0x56]
  | .bit3AtIYd d => [0xFD, 0xCB, d, 0x5E]
  | .bit4AtIYd d => [0xFD, 0xCB, d, 0x66]
  | .bit5AtIYd d => [0xFD, 0xCB, d, 0x6E]
  | .bit6AtIYd d => [0xFD, 0xCB, d, 0x76]
  | .bit7AtIYd d => [0xFD, 0xCB, d, 0x7E]
  | .bit0B => [0xCB, 0x40]
  | .bit0C => [0xCB, 0x41]
  | .bit0D => [0xCB, 0x42]
  | .bit0E => [0xCB, 0x43]
  | .bit0H => [0xCB, 0x44]
  | .bit0L => [0xCB, 0x45]
  | .bit0A => [0xCB, 0x47]
  | .bit1B => [0xCB, 0x48]
  | .bit1C => [0xCB, 0x49]
  | .bit1D => [0xCB, 0x4A]
  | .bit1E => [0xCB, 0x4B]
  | .bit1H => [0xCB, 0x4C]
  | .bit1L => [0xCB, 0x4D]
  | .bit1A => [0xCB, 0x4F]
  | .bit2B => [0xCB, 0x50]
  | .bit2C => [0xCB, 0x51]
  | .bit2D => [0xCB, 0x52]
  | .bit2E => [0xCB, 0x53]
  | .bit2H => [0xCB, 0x54]
  | .bit2L => [0xCB, 0x55]
  | .bit2A => [0xCB, 0x57]
  | .bit3B => [0xCB, 0x58]
  | .bit3C => [0xCB, 0x59]
  | .bit3D => [0xCB, 0x5A]
  | .bit3E => [0xCB, 0x5B]
  | .bit3H => [0xCB, 0x5C]
  | .bit3L => [0xCB, 0x5D]
  | .bit3A => [0xCB, 0x5F]
  | .bit4B => [0xCB, 0x60]
  | .bit4C => [0xCB, 0x61]
  | .bit4D => [0xCB, 0x62]
  | .bit4E => [0xCB, 0x63]
  | .bit4H => [0xCB, 0x64]
  | .bit4L => [0xCB, 0x65]
  | .bit4A => [0xCB, 0x67]
  | .bit5B => [0xCB, 0x68]
  | .bit5C => [0xCB, 0x69]
  | .bit5D => [0xCB, 0x6A]
  | .bit5E => [0xCB, 0x6B]
  | .bit5H => [0xCB, 0x6C]
  | .bit5L => [0xCB, 0x6D]
  | .bit5A => [0xCB, 0x6F]
  | .bit6B => [0xCB, 0x70]
  | .bit6C => [0xCB, 0x71]
  | .bit6D => [0xCB, 0x72]
  | .bit6E => [0xCB, 0x73]
  | .bit6H => [0xCB, 0x74]
  | .bit6L => [0xCB, 0x75]
  | .bit6A => [0xCB, 0x77]
  | .bit7B => [0xCB, 0x78]
  | .bit7C => [0xCB, 0x79]
  | .bit7D => [0xCB, 0x7A]
  | .bit7E => [0xCB, 0x7B]
  | .bit7H => [0xCB, 0x7C]
  | .bit7L => [0xCB, 0x7D]
  | .bit7A => [0xCB, 0x7F]
  | .boolHL => [0xCC]
  | .boolIX => [0xDD, 0xCC]
  | .boolIY => [0xFD, 0xCC]
  | .callmn mn => [0xCD, lo mn, hi mn]
  | .ccf => [0x3F]
  | .cpAtHL => [0xBE]
  | .cpAtIXd d => [0xDD, 0xBE, d]
  | .cpAtIYd d => [0xFD, 0xBE, d]
  | .cpn n => [0xFE, n]
  | .cpB => [0xB8]
  | .cpC => [0xB9]
  | .cpD => [0xBA]
  | .cpE => [0xBB]
  | .cpH => [0xBC]
  | .cpL => [0xBD]
  | .cpA => [0xBF]
  | .cpl => [0x2F]
  | .decAtHL => [0x35]
  | .decAtIXd d => [0xDD, 0x35, d]
  | .decAtIYd d => [0xFD, 0x35, d]
  | .decIX => [0xDD, 0x2B]
  | .decIY => [0xFD, 0x2B]
  | .decB => [0x05]
  | .decC => [0x0D]
  | .decD => [0x15]
  | .decE => [0x1D]
  | .decH => [0x25]
  | .decL => [0x2D]
  | .decA => [0x3D]
  | .decBC => [0x0B]
  | .decDE => [0x1B]
  | .decHL => [0x2B]
  | .decSP => [0x3B]
  | .djnze k => [0x10, k]
  | .exAtSPHL => [0xED, 0x54]
  | .exAtSPIX => [0xDD, 0xE3]
  | .exAtSPIY => [0xFD, 0xE3]
  | .exAFAFalt => [0x08]
  | .exDEHL => [0xEB]
  | .exDEaltHL => [0xE3]
  | .exx => [0xD9]
  | .incAtHL => [0x34]
  | .incAtIXd d => [0xDD, 0x34, d]
  | .incAtIYd d => [0xFD, 0x34, d]
  | .incIX => [0xDD, 0x23]
  | .incIY => [0xFD, 0x23]
  | .incB => [0x04]
  | .incC => [0x0C]
  | .incD => [0x14]
  | .incE => [0x1C]
  | .incH => [0x24]
  | .incL => [0x2C]
  | .incA => [0x3C]
  | .incBC => [0x03]
  | .incDE => [0x13]
  | .incHL => [0x23]
  | .incSP => [0x33]
  | .ioe => [0xDB]
  | .ioi => [0xD3]
  | .ipset0 => [0xED, 0x46]
  | .ipset1 => [0xED, 0x56]
  | .ipset2 => [0xED, 0x4E]
  | .ipset3 => [0xED, 0x5E]
  | .ipres => [0xED, 0x5D]
  | .jpAtHL => [0xE9]
  | .jpAtIX => [0xDD, 0xE9]
  | .jpAtIY => [0xFD, 0xE9]
  | .jpmn mn => [0xC3, lo mn, hi mn]
  | .jpNZmn mn => [0xC2, lo mn, hi mn]
  | .jpZmn mn => [0xCA, lo mn, hi mn]
  | .jpNCmn mn => [0xD2, lo mn, hi mn]
  | .jpCmn mn => [0xDA, lo mn, hi mn]
  | .jpLZmn mn => [0xE2, lo mn, hi mn]
  | .jpLOmn mn => [0xEA, lo mn, hi mn]
  | .jpPmn mn => [0xF2, lo mn, hi mn]
  | .jpMmn mn => [0xFA, lo mn, hi mn]
  | .jrNZe k => [0x20, k]
  | .jrZe k => [0x28, k]
  | .jrNCe k => [0x30, k]
  | .jrCe k => [0x38, k]
  | .jre k => [0x18, k]
  | .lcallxmn x mn => [0xCF, lo mn, hi mn, x]
  | .ldAtBCA => [0x02]
  | .ldAtDEA => [0x12]
  | .ldAtHLn n => [0x36, n]
  | .ldAtHLB => [0x70]
  | .ldAtHLC => [0x71]
  | .ldAtHLD => [0x72]
  | .ldAtHLE => [0x73]
  | .ldAtHLH => [0x74]
  | .ldAtHLL => [0x75]
  | .ldAtHLA => [0x77]
  | .ldAtHLdHL d => [0xDD, 0xF4, d]
  | .ldAtIXdHL d => [0xF4, d]
  | .ldAtIXdn d n => [0xDD, 0x36, d, n]
  | .ldAtIXdB d => [0xDD, 0x70, d]
  | .ldAtIXdC d => [0xDD, 0x71, d]
  | .ldAtIXdD d => [0xDD, 0x72, d]
  | .ldAtIXdE d => [0xDD, 0x73, d]
  | .ldAtIXdH d => [0xDD, 0x74, d]
  | .ldAtIXdL d => [0xDD, 0x75, d]
  | .ldAtIXdA d => [0xDD, 0x77, d]
  | .ldAtIYdHL d => [0xFD, 0xF4, d]
  | .ldAtIYdn d n => [0xFD, 0x36, d, n]
  | .ldAtIYdB d => [0xFD, 0x70, d]
  | .ldAtIYdC d => [0xFD, 0x71, d]
  | .ldAtIYdD d => [0xFD, 0x72, d]
  | .ldAtIYdE d => [0xFD, 0x73, d]
  | .ldAtIYdH d => [0xFD, 0x74, d]
  | .ldAtIYdL d => [0xFD, 0x75, d]
  | .ldAtIYdA d => [0xFD, 0x77, d]
  | .ldAtmnA mn => [0x32, lo mn, hi mn]
  | .ldAtmnHL mn => [0x22, lo mn, hi mn]
  | .ldAtmnIX mn => [0xDD, 0x22, lo mn, hi mn]
  | .ldAtmnIY mn => [0xFD, 0x22, lo mn, hi mn]
  | .ldAtmnBC mn => [0xED, 0x43, lo mn, hi mn]
  | .ldAtmnDE mn => [0xED, 0x53, lo mn, hi mn]
  | .ldAtmnHLed mn => [0xED, 0x63, lo mn, hi mn]
  | .ldAtmnSP mn => [0xED, 0x73, lo mn, hi mn]
  | .ldAtSPnHL n => [0xD4, n]
  | .ldAtSPnIX n => [0xDD, 0xD4, n]
  | .ldAtSPnIY n => [0xFD, 0xD4, n]
  | .ldAAtBC => [0x0A]
  | .ldAAtDE => [0x1A]
  | .ldAAtmn mn => [0x3A, lo mn, hi mn]
  | .ldAEIR => [0xED, 0x57]
  | .ldAIIR => [0xED, 0x5F]
  | .ldAXPC => [0xED, 0x77]
  | .ldBCAtmn mn => [0xED, 0x4B, lo mn, hi mn]
  | .ldDEAtmn mn => [0xED, 0x5B, lo mn, hi mn]
  | .ldSPAtmn mn => [0xED, 0x7B, lo mn, hi mn]
  | .ldHLAtmn mn => [0x2A, lo mn, hi mn]
  | .ldBCaltBC => [0xED, 0x49]
  | .ldDEaltBC => [0xED, 0x59]
  | .ldHLaltBC => [0xED, 0x69]
  | .ldBCaltDE => [0xED, 0x41]
  | .ldDEaltDE => [0xED, 0x51]
  | .ldHLaltDE => [0xED, 0x61]
  | .ldBCmn mn => [0x01, lo mn, hi mn]
  | .ldDEmn mn => [0x11, lo mn, hi mn]
  | .ldHLmn mn => [0x21, lo mn, hi mn]
  | .ldSPmn mn => [0x31, lo mn, hi mn]
  | .ldEIRA => [0xED, 0x47]
  | .ldIIRA => [0xED, 0x4F]
  | .ldHLAtHLd d => [0xDD, 0xE4, d]
  | .ldHLAtIXd d => [0xE4, d]
  | .ldHLAtIYd d => [0xFD, 0xE4, d]
  | .ldHLAtSPn n => [0xC4, n]
  | .ldHLIX => [0xDD, 0x7C]
  | .ldHLIY => [0xFD, 0x7C]
  | .ldIXAtmn mn => [0xDD, 0x2A, lo mn, hi mn]
  | .ldIXAtSPn n => [0xDD, 0xC4, n]
  | .ldIXHL => [0xDD, 0x7D]
  | .ldIXmn mn => [0xDD, 0x21, lo mn, hi mn]
  | .ldIYHL => [0xFD, 0x7D]
  | .ldIYmn mn => [0xFD, 0x21, lo mn, hi mn]
  | .ldIYAtmn mn => [0xFD, 0x2A, lo mn, hi mn]
  | .ldIYAtSPn n => [0xFD, 0xC4, n]
  | .ldBAtHL => [0x46]
  | .ldCAtHL => [0x4E]
  | .ldDAtHL => [0x56]
  | .ldEAtHL => [0x5E]
  | .ldHAtHL => [0x66]
  | .ldLAtHL => [0x6E]
  | .ldAAtHL => [0x7E]
  | .ldBAtIXd d => [0xDD, 0x46, d]
  | .ldCAtIXd d => [0xDD, 0x4E, d]
  | .ldDAtIXd d => [0xDD, 0x56, d]
  | .ldEAtIXd d => [0xDD, 0x5E, d]
  | .ldHAtIXd d => [0xDD, 0x66, d]
  | .ldLAtIXd d => [0xDD, 0x6E, d]
  | .ldAAtIXd d => [0xDD, 0x7E, d]
  | .ldBAtIYd d => [0xFD, 0x46, d]
  | .ldCAtIYd d => [0xFD, 0x4E, d]
  | .ldDAtIYd d => [0xFD, 0x56, d]
  | .ldEAtIYd d => [0xFD, 0x5E, d]
  | .ldHAtIYd d => [0xFD, 0x66, d]
  | .ldLAtIYd d => [0xFD, 0x6E, d]
  | .ldAAtIYd d => [0xFD, 0x7E, d]
  | .ldBn n => [0x06, n]
  | .ldCn n => [0x0E, n]
  | .ldDn n => [0x16, n]
  | .ldEn n => [0x1E, n]
  | .ldHn n => [0x26, n]
  | .ldLn n => [0x2E, n]
  | .ldAn n => [0x3E, n]
  | .ldBB => [0x40]
  | .ldBC => [0x41]
  | .ldBD => [0x42]
  | .ldBE => [0x43]
  | .ldBH => [0x44]
  | .ldBL => [0x45]
  | .ldBA => [0x47]
  | .ldCB => [0x48]
  | .ldCC => [0x49]
  | .ldCD => [0x4A]
  | .ldCE => [0x4B]
  | .ldCH => [0x4C]
  | .ldCL => [0x4D]
  | .ldCA => [0x4F]
  | .ldDB => [0x50]
  | .ldDC => [0x51]
  | .ldDD => [0x52]
  | .ldDE => [0x53]
  | .ldDH => [0x54]
  | .ldDL => [0x55]
  | .ldDA => [0x57]
  | .ldEB => [0x58]
  | .ldEC => [0x59]
  | .ldED => [0x5A]
  | .ldEE => [0x5B]
  | .ldEH => [0x5C]
  | .ldEL => [0x5D]
  | .ldEA => [0x5F]
  | .ldHB => [0x60]
  | .ldHC => [0x61]
  | .ldHD => [0x62]
  | .ldHE => [0x63]
  | .ldHH => [0x64]
  | .ldHL => [0x65]
  | .ldHA => [0x67]
  | .ldLB => [0x68]
  | .ldLC => [0x69]
  | .ldLD => [0x6A]
  | .ldLE => [0x6B]
  | .ldLH => [0x6C]
  | .ldLL => [0x6D]
  | .ldLA => [0x6F]
  | .ldAB => [0x78]
  | .ldAC => [0x79]
  | .ldAD => [0x7A]
  | .ldAE => [0x7B]
  | .ldAH => [0x7C]
  | .ldAL => [0x7D]
  | .ldAA => [0x7F]
  | .ldSPHL => [0xF9]
  | .ldSPIX => [0xDD, 0xF9]
  | .ldSPIY => [0xFD, 0xF9]
  | .ldXPCA => [0xED, 0x67]
  | .ldd => [0xED, 0xA8]
  | .lddr => [0xED, 0xB8]
  | .ldi => [0xED, 0xA0]
  | .ldir => [0xED, 0xB0]

/-- The bytes of an instruction with its prefixes (R110). -/
def Prefixed.encode (p : Prefixed) : List Byte := p.pfx.flatMap Sys2Proof.encode ++ Sys2Proof.encode p.core

/-- The length in bytes of an instruction, prefixes included (R13, R134). -/
def Prefixed.length (p : Prefixed) : Nat := p.encode.length

/-! ## The host's words

`spec/opcode_table.json` numbers a row's bits as one number whose most significant byte is the byte fetched first
(`match` "byte 0 leftmost", R144; the reader's `fixed` and `fields`). The host's wording puts the first byte in bits
7 to 0. Both orders are tried, the table's own first, and the one that is a whole row is taken. DESIGN CHOICE, log 24. -/

/-- The `n` low bytes of `w`, the least significant first. -/
def bytesLow : Nat → Nat → List Byte
  | 0, _ => []
  | n + 1, w => BitVec.ofNat 8 w :: bytesLow n (w / 256)

/-- Are the bytes exactly one row? -/
def isWholeRow (bs : List Byte) : Bool :=
  match readRow bs with
  | .row _ [] => true
  | _ => false

/-- The bytes, in fetch order, of the opcode-table row whose bits are `w`. -/
def tableBytes (nbits w : Nat) : List Byte :=
  let low := bytesLow (nbits / 8) w
  if isWholeRow low.reverse then low.reverse else low

/-- The instruction the decoder reads from an opcode-table row's bits. -/
def decodeTableWord (nbits w : Nat) : Option Instr :=
  match readRow (tableBytes nbits w ++ [0x00, 0x00, 0x00]) with
  | .row i _ => some i
  | _ => none

end Sys2Proof
end

