-- ==== Sys2Proof/Machine/Fetch.lean ====
section
/-! DEFINITION. Fetching an instruction's bytes, what a fetched instruction runs as, which instructions are privileged,
and placing the host's words where the machine fetches (`spec/20_memory.md` R84, `30_encoding.md` R112,
`60_exceptions.md` R405). -/

namespace Sys2Proof.Machine

/-- The most bytes an instruction has: two prefixes and a core of four (R110). -/
def maxLength : Nat := 6

/-- The bytes from an address on, `n` at most, up to the first cell that holds none (R84). -/
def fetchBytes (s : State) : Nat → Addr → List Byte
  | 0, _ => []
  | n + 1, a =>
    match s.peek a with
    | some b => b :: fetchBytes s n (a + 1)
    | none => []

/-- The bytes at PC. -/
def State.fetched (s : State) : List Byte := fetchBytes s maxLength s.cpu.pc

/-- The privileged instructions (R405): no interrupt is accepted at the boundary after one (R404). -/
def privileged : Instr → Bool
  | .bit0AtHL => true
  | .bit1AtHL => true
  | .bit2AtHL => true
  | .bit3AtHL => true
  | .bit4AtHL => true
  | .bit5AtHL => true
  | .bit6AtHL => true
  | .bit7AtHL => true
  | .ipset0 => true
  | .ipset1 => true
  | .ipset2 => true
  | .ipset3 => true
  | .ipres => true
  | .ldAXPC => true
  | .ldXPCA => true
  | .ldSPHL => true
  | .ldSPIX => true
  | .ldSPIY => true
  | _ => false

/-- Everything after an instruction's own effect: the latch and the prefix context (R55, R58), then the interrupt
boundary (R403). -/
def finishInstr (core : Instr) (s : State) : State :=
  settle (interruptBoundary (privileged core) (endInstr s))

/-- Load bytes at rising addresses, from outside the machine. -/
def placeBytes : List Byte → Addr → State → State
  | [], _, s => s
  | b :: t, a, s => placeBytes t (a + 1) (s.load a b)

/-- The host's word as an instruction at PC: its bytes in fetch order, then zeros up to the longest instruction. -/
def State.placeWord (s : State) (nbits w : Nat) : State :=
  placeBytes ((tableBytes nbits w ++ List.replicate maxLength 0x00).take maxLength) s.cpu.pc s

end Sys2Proof.Machine
end

