-- ==== Sys2Proof/Machine/Run.lean ====
section
/-! DEFINITION. Running an instruction with its prefixes as one step (`spec/30_encoding.md` R112, R116). -/

namespace Sys2Proof.Machine

/-- Execute rows one after the other, while each answers a next state. -/
def execAll : List Instr → State → Out
  | [], s => .next s
  | i :: t, s =>
    match exec i s with
    | .next u => execAll t u
    | .fault f => .fault f
    | .refused r => .refused r

/-- One instruction: its prefixes set the context, its core has its effect (R13, R116), and the end of the instruction
follows. -/
def runInstr (p : Prefixed) (s : State) : Out :=
  onNext (execAll (p.pfx ++ [p.core]) (beginInstr p.length s)) (finishInstr p.core)

/-- What the fetched bytes do (R112). Bytes that end too early end at a cell that holds no value. -/
def runDecoded (d : Decoded) (s : State) : Out :=
  match d with
  | .instr p _ => runInstr p s
  | .notInSource => .refused .encodingNotInSource
  | .badPrefixes => .refused .badPrefixes
  | .truncated => .fault (.unwrittenCell (s.cpu.pc + BitVec.ofNat 16 s.fetched.length))

end Sys2Proof.Machine
end

