-- ==== Sys2Proof/Machine/Step.lean ====
section
/-! DEFINITION. One step of the machine: fetch, decode, run one instruction with its prefixes or one iteration of a
repeating block move, and the interrupt boundary after it (`spec/30_encoding.md` R112, R116, `60_exceptions.md` R403). -/

namespace Sys2Proof.Machine

/-- One step. -/
def step (s : State) : Host.Outcome State Fault Refusal := runDecoded (decode s.fetched) s

/-- The state with an opcode-table row's bits where the next step fetches (log 24, log 25). -/
def State.withFetchWord (s : State) (nbits w : Nat) : State := s.placeWord nbits w

end Sys2Proof.Machine
end

