-- ==== Sys2Proof/Machine/Timing.lean ====
section
/-! DEFINITION. The clock counts of the source (`spec/70_reset_and_hazards.md` R450 to R452): timing only. Nothing in
`step` reads them and no instruction can observe them. Log 27. -/

namespace Sys2Proof.Machine

/-- A clock count: a fixed part, and for LDDR and LDIR a part for each iteration (R451). -/
structure Clocks where
  fixed : Nat
  perIteration : Nat := 0
deriving DecidableEq, Repr

/-- The source's clock count of each row, the prefixes' own 2 among them (R451). -/
def clocks : Instr → Clocks
  | .adcAAtHL => { fixed := 5 }
  | .adcAAtIXd _ => { fixed := 9 }
  | .adcAAtIYd _ => { fixed := 9 }
  | .adcAn _ => { fixed := 4 }
  | .adcAB => { fixed := 2 }
  | .adcAC => { fixed := 2 }
  | .adcAD => { fixed := 2 }
  | .adcAE => { fixed := 2 }
  | .adcAH => { fixed := 2 }
  | .adcAL => { fixed := 2 }
  | .adcAA => { fixed := 2 }
  | .adcHLBC => { fixed := 4 }
  | .adcHLDE => { fixed := 4 }
  | .adcHLHL => { fixed := 4 }
  | .adcHLSP => { fixed := 4 }
  | .addAAtHL => { fixed := 5 }
  | .addAAtIXd _ => { fixed := 9 }
  | .addAAtIYd _ => { fixed := 9 }
  | .addAn _ => { fixed := 4 }
  | .addAB => { fixed := 2 }
  | .addAC => { fixed := 2 }
  | .addAD => { fixed := 2 }
  | .addAE => { fixed := 2 }
  | .addAH => { fixed := 2 }
  | .addAL => { fixed := 2 }
  | .addAA => { fixed := 2 }
  | .addHLBC => { fixed := 2 }
  | .addHLDE => { fixed := 2 }
  | .addHLHL => { fixed := 2 }
  | .addHLSP => { fixed := 2 }
  | .addIXBC => { fixed := 4 }
  | .addIXDE => { fixed := 4 }
  | .addIXIX => { fixed := 4 }
  | .addIXSP => { fixed := 4 }
  | .addIYBC => { fixed := 4 }
  | .addIYDE => { fixed := 4 }
  | .addIYIY => { fixed := 4 }
  | .addIYSP => { fixed := 4 }
  | .addSPd _ => { fixed := 4 }
  | .altd => { fixed := 2 }
  | .andAtHL => { fixed := 5 }
  | .andAtIXd _ => { fixed := 9 }
  | .andAtIYd _ => { fixed := 9 }
  | .andHLDE => { fixed := 2 }
  | .andIXDE => { fixed := 4 }
  | .andIYDE => { fixed := 4 }
  | .andn _ => { fixed := 4 }
  | .andB => { fixed := 2 }
  | .andC => { fixed := 2 }
  | .andD => { fixed := 2 }
  | .andE => { fixed := 2 }
  | .andH => { fixed := 2 }
  | .andL => { fixed := 2 }
  | .andA => { fixed := 2 }
  | .bit0AtHL => { fixed := 7 }
  | .bit1AtHL => { fixed := 7 }
  | .bit2AtHL => { fixed := 7 }
  | .bit3AtHL => { fixed := 7 }
  | .bit4AtHL => { fixed := 7 }
  | .bit5AtHL => { fixed := 7 }
  | .bit6AtHL => { fixed := 7 }
  | .bit7AtHL => { fixed := 7 }
  | .bit0AtIXd _ => { fixed := 10 }
  | .bit1AtIXd _ => { fixed := 10 }
  | .bit2AtIXd _ => { fixed := 10 }
  | .bit3AtIXd _ => { fixed := 10 }
  | .bit4AtIXd _ => { fixed := 10 }
  | .bit5AtIXd _ => { fixed := 10 }
  | .bit6AtIXd _ => { fixed := 10 }
  | .bit7AtIXd _ => { fixed := 10 }
  | .bit0AtIYd _ => { fixed := 10 }
  | .bit1AtIYd _ => { fixed := 10 }
  | .bit2AtIYd _ => { fixed := 10 }
  | .bit3AtIYd _ => { fixed := 10 }
  | .bit4AtIYd _ => { fixed := 10 }
  | .bit5AtIYd _ => { fixed := 10 }
  | .bit6AtIYd _ => { fixed := 10 }
  | .bit7AtIYd _ => { fixed := 10 }
  | .bit0B => { fixed := 4 }
  | .bit0C => { fixed := 4 }
  | .bit0D => { fixed := 4 }
  | .bit0E => { fixed := 4 }
  | .bit0H => { fixed := 4 }
  | .bit0L => { fixed := 4 }
  | .bit0A => { fixed := 4 }
  | .bit1B => { fixed := 4 }
  | .bit1C => { fixed := 4 }
  | .bit1D => { fixed := 4 }
  | .bit1E => { fixed := 4 }
  | .bit1H => { fixed := 4 }
  | .bit1L => { fixed := 4 }
  | .bit1A => { fixed := 4 }
  | .bit2B => { fixed := 4 }
  | .bit2C => { fixed := 4 }
  | .bit2D => { fixed := 4 }
  | .bit2E => { fixed := 4 }
  | .bit2H => { fixed := 4 }
  | .bit2L => { fixed := 4 }
  | .bit2A => { fixed := 4 }
  | .bit3B => { fixed := 4 }
  | .bit3C => { fixed := 4 }
  | .bit3D => { fixed := 4 }
  | .bit3E => { fixed := 4 }
  | .bit3H => { fixed := 4 }
  | .bit3L => { fixed := 4 }
  | .bit3A => { fixed := 4 }
  | .bit4B => { fixed := 4 }
  | .bit4C => { fixed := 4 }
  | .bit4D => { fixed := 4 }
  | .bit4E => { fixed := 4 }
  | .bit4H => { fixed := 4 }
  | .bit4L => { fixed := 4 }
  | .bit4A => { fixed := 4 }
  | .bit5B => { fixed := 4 }
  | .bit5C => { fixed := 4 }
  | .bit5D => { fixed := 4 }
  | .bit5E => { fixed := 4 }
  | .bit5H => { fixed := 4 }
  | .bit5L => { fixed := 4 }
  | .bit5A => { fixed := 4 }
  | .bit6B => { fixed := 4 }
  | .bit6C => { fixed := 4 }
  | .bit6D => { fixed := 4 }
  | .bit6E => { fixed := 4 }
  | .bit6H => { fixed := 4 }
  | .bit6L => { fixed := 4 }
  | .bit6A => { fixed := 4 }
  | .bit7B => { fixed := 4 }
  | .bit7C => { fixed := 4 }
  | .bit7D => { fixed := 4 }
  | .bit7E => { fixed := 4 }
  | .bit7H => { fixed := 4 }
  | .bit7L => { fixed := 4 }
  | .bit7A => { fixed := 4 }
  | .boolHL => { fixed := 2 }
  | .boolIX => { fixed := 4 }
  | .boolIY => { fixed := 4 }
  | .callmn _ => { fixed := 12 }
  | .ccf => { fixed := 2 }
  | .cpAtHL => { fixed := 5 }
  | .cpAtIXd _ => { fixed := 9 }
  | .cpAtIYd _ => { fixed := 9 }
  | .cpn _ => { fixed := 4 }
  | .cpB => { fixed := 2 }
  | .cpC => { fixed := 2 }
  | .cpD => { fixed := 2 }
  | .cpE => { fixed := 2 }
  | .cpH => { fixed := 2 }
  | .cpL => { fixed := 2 }
  | .cpA => { fixed := 2 }
  | .cpl => { fixed := 2 }
  | .decAtHL => { fixed := 8 }
  | .decAtIXd _ => { fixed := 12 }
  | .decAtIYd _ => { fixed := 12 }
  | .decIX => { fixed := 4 }
  | .decIY => { fixed := 4 }
  | .decB => { fixed := 2 }
  | .decC => { fixed := 2 }
  | .decD => { fixed := 2 }
  | .decE => { fixed := 2 }
  | .decH => { fixed := 2 }
  | .decL => { fixed := 2 }
  | .decA => { fixed := 2 }
  | .decBC => { fixed := 2 }
  | .decDE => { fixed := 2 }
  | .decHL => { fixed := 2 }
  | .decSP => { fixed := 2 }
  | .djnze _ => { fixed := 5 }
  | .exAtSPHL => { fixed := 15 }
  | .exAtSPIX => { fixed := 15 }
  | .exAtSPIY => { fixed := 15 }
  | .exAFAFalt => { fixed := 2 }
  | .exDEHL => { fixed := 2 }
  | .exDEaltHL => { fixed := 2 }
  | .exx => { fixed := 2 }
  | .incAtHL => { fixed := 8 }
  | .incAtIXd _ => { fixed := 12 }
  | .incAtIYd _ => { fixed := 12 }
  | .incIX => { fixed := 4 }
  | .incIY => { fixed := 4 }
  | .incB => { fixed := 2 }
  | .incC => { fixed := 2 }
  | .incD => { fixed := 2 }
  | .incE => { fixed := 2 }
  | .incH => { fixed := 2 }
  | .incL => { fixed := 2 }
  | .incA => { fixed := 2 }
  | .incBC => { fixed := 2 }
  | .incDE => { fixed := 2 }
  | .incHL => { fixed := 2 }
  | .incSP => { fixed := 2 }
  | .ioe => { fixed := 2 }
  | .ioi => { fixed := 2 }
  | .ipset0 => { fixed := 4 }
  | .ipset1 => { fixed := 4 }
  | .ipset2 => { fixed := 4 }
  | .ipset3 => { fixed := 4 }
  | .ipres => { fixed := 4 }
  | .jpAtHL => { fixed := 4 }
  | .jpAtIX => { fixed := 6 }
  | .jpAtIY => { fixed := 6 }
  | .jpmn _ => { fixed := 7 }
  | .jpNZmn _ => { fixed := 7 }
  | .jpZmn _ => { fixed := 7 }
  | .jpNCmn _ => { fixed := 7 }
  | .jpCmn _ => { fixed := 7 }
  | .jpLZmn _ => { fixed := 7 }
  | .jpLOmn _ => { fixed := 7 }
  | .jpPmn _ => { fixed := 7 }
  | .jpMmn _ => { fixed := 7 }
  | .jrNZe _ => { fixed := 5 }
  | .jrZe _ => { fixed := 5 }
  | .jrNCe _ => { fixed := 5 }
  | .jrCe _ => { fixed := 5 }
  | .jre _ => { fixed := 5 }
  | .lcallxmn _ _ => { fixed := 19 }
  | .ldAtBCA => { fixed := 7 }
  | .ldAtDEA => { fixed := 7 }
  | .ldAtHLn _ => { fixed := 7 }
  | .ldAtHLB => { fixed := 6 }
  | .ldAtHLC => { fixed := 6 }
  | .ldAtHLD => { fixed := 6 }
  | .ldAtHLE => { fixed := 6 }
  | .ldAtHLH => { fixed := 6 }
  | .ldAtHLL => { fixed := 6 }
  | .ldAtHLA => { fixed := 6 }
  | .ldAtHLdHL _ => { fixed := 13 }
  | .ldAtIXdHL _ => { fixed := 11 }
  | .ldAtIXdn _ _ => { fixed := 11 }
  | .ldAtIXdB _ => { fixed := 10 }
  | .ldAtIXdC _ => { fixed := 10 }
  | .ldAtIXdD _ => { fixed := 10 }
  | .ldAtIXdE _ => { fixed := 10 }
  | .ldAtIXdH _ => { fixed := 10 }
  | .ldAtIXdL _ => { fixed := 10 }
  | .ldAtIXdA _ => { fixed := 10 }
  | .ldAtIYdHL _ => { fixed := 13 }
  | .ldAtIYdn _ _ => { fixed := 11 }
  | .ldAtIYdB _ => { fixed := 10 }
  | .ldAtIYdC _ => { fixed := 10 }
  | .ldAtIYdD _ => { fixed := 10 }
  | .ldAtIYdE _ => { fixed := 10 }
  | .ldAtIYdH _ => { fixed := 10 }
  | .ldAtIYdL _ => { fixed := 10 }
  | .ldAtIYdA _ => { fixed := 10 }
  | .ldAtmnA _ => { fixed := 10 }
  | .ldAtmnHL _ => { fixed := 13 }
  | .ldAtmnIX _ => { fixed := 15 }
  | .ldAtmnIY _ => { fixed := 15 }
  | .ldAtmnBC _ => { fixed := 15 }
  | .ldAtmnDE _ => { fixed := 15 }
  | .ldAtmnHLed _ => { fixed := 15 }
  | .ldAtmnSP _ => { fixed := 15 }
  | .ldAtSPnHL _ => { fixed := 11 }
  | .ldAtSPnIX _ => { fixed := 13 }
  | .ldAtSPnIY _ => { fixed := 13 }
  | .ldAAtBC => { fixed := 6 }
  | .ldAAtDE => { fixed := 6 }
  | .ldAAtmn _ => { fixed := 9 }
  | .ldAEIR => { fixed := 4 }
  | .ldAIIR => { fixed := 4 }
  | .ldAXPC => { fixed := 4 }
  | .ldBCAtmn _ => { fixed := 13 }
  | .ldDEAtmn _ => { fixed := 13 }
  | .ldSPAtmn _ => { fixed := 13 }
  | .ldHLAtmn _ => { fixed := 11 }
  | .ldBCaltBC => { fixed := 4 }
  | .ldDEaltBC => { fixed := 4 }
  | .ldHLaltBC => { fixed := 4 }
  | .ldBCaltDE => { fixed := 4 }
  | .ldDEaltDE => { fixed := 4 }
  | .ldHLaltDE => { fixed := 4 }
  | .ldBCmn _ => { fixed := 6 }
  | .ldDEmn _ => { fixed := 6 }
  | .ldHLmn _ => { fixed := 6 }
  | .ldSPmn _ => { fixed := 6 }
  | .ldEIRA => { fixed := 4 }
  | .ldIIRA => { fixed := 4 }
  | .ldHLAtHLd _ => { fixed := 11 }
  | .ldHLAtIXd _ => { fixed := 9 }
  | .ldHLAtIYd _ => { fixed := 11 }
  | .ldHLAtSPn _ => { fixed := 9 }
  | .ldHLIX => { fixed := 4 }
  | .ldHLIY => { fixed := 4 }
  | .ldIXAtmn _ => { fixed := 13 }
  | .ldIXAtSPn _ => { fixed := 11 }
  | .ldIXHL => { fixed := 4 }
  | .ldIXmn _ => { fixed := 8 }
  | .ldIYHL => { fixed := 4 }
  | .ldIYmn _ => { fixed := 8 }
  | .ldIYAtmn _ => { fixed := 13 }
  | .ldIYAtSPn _ => { fixed := 11 }
  | .ldBAtHL => { fixed := 5 }
  | .ldCAtHL => { fixed := 5 }
  | .ldDAtHL => { fixed := 5 }
  | .ldEAtHL => { fixed := 5 }
  | .ldHAtHL => { fixed := 5 }
  | .ldLAtHL => { fixed := 5 }
  | .ldAAtHL => { fixed := 5 }
  | .ldBAtIXd _ => { fixed := 9 }
  | .ldCAtIXd _ => { fixed := 9 }
  | .ldDAtIXd _ => { fixed := 9 }
  | .ldEAtIXd _ => { fixed := 9 }
  | .ldHAtIXd _ => { fixed := 9 }
  | .ldLAtIXd _ => { fixed := 9 }
  | .ldAAtIXd _ => { fixed := 9 }
  | .ldBAtIYd _ => { fixed := 9 }
  | .ldCAtIYd _ => { fixed := 9 }
  | .ldDAtIYd _ => { fixed := 9 }
  | .ldEAtIYd _ => { fixed := 9 }
  | .ldHAtIYd _ => { fixed := 9 }
  | .ldLAtIYd _ => { fixed := 9 }
  | .ldAAtIYd _ => { fixed := 9 }
  | .ldBn _ => { fixed := 4 }
  | .ldCn _ => { fixed := 4 }
  | .ldDn _ => { fixed := 4 }
  | .ldEn _ => { fixed := 4 }
  | .ldHn _ => { fixed := 4 }
  | .ldLn _ => { fixed := 4 }
  | .ldAn _ => { fixed := 4 }
  | .ldBB => { fixed := 2 }
  | .ldBC => { fixed := 2 }
  | .ldBD => { fixed := 2 }
  | .ldBE => { fixed := 2 }
  | .ldBH => { fixed := 2 }
  | .ldBL => { fixed := 2 }
  | .ldBA => { fixed := 2 }
  | .ldCB => { fixed := 2 }
  | .ldCC => { fixed := 2 }
  | .ldCD => { fixed := 2 }
  | .ldCE => { fixed := 2 }
  | .ldCH => { fixed := 2 }
  | .ldCL => { fixed := 2 }
  | .ldCA => { fixed := 2 }
  | .ldDB => { fixed := 2 }
  | .ldDC => { fixed := 2 }
  | .ldDD => { fixed := 2 }
  | .ldDE => { fixed := 2 }
  | .ldDH => { fixed := 2 }
  | .ldDL => { fixed := 2 }
  | .ldDA => { fixed := 2 }
  | .ldEB => { fixed := 2 }
  | .ldEC => { fixed := 2 }
  | .ldED => { fixed := 2 }
  | .ldEE => { fixed := 2 }
  | .ldEH => { fixed := 2 }
  | .ldEL => { fixed := 2 }
  | .ldEA => { fixed := 2 }
  | .ldHB => { fixed := 2 }
  | .ldHC => { fixed := 2 }
  | .ldHD => { fixed := 2 }
  | .ldHE => { fixed := 2 }
  | .ldHH => { fixed := 2 }
  | .ldHL => { fixed := 2 }
  | .ldHA => { fixed := 2 }
  | .ldLB => { fixed := 2 }
  | .ldLC => { fixed := 2 }
  | .ldLD => { fixed := 2 }
  | .ldLE => { fixed := 2 }
  | .ldLH => { fixed := 2 }
  | .ldLL => { fixed := 2 }
  | .ldLA => { fixed := 2 }
  | .ldAB => { fixed := 2 }
  | .ldAC => { fixed := 2 }
  | .ldAD => { fixed := 2 }
  | .ldAE => { fixed := 2 }
  | .ldAH => { fixed := 2 }
  | .ldAL => { fixed := 2 }
  | .ldAA => { fixed := 2 }
  | .ldSPHL => { fixed := 2 }
  | .ldSPIX => { fixed := 4 }
  | .ldSPIY => { fixed := 4 }
  | .ldXPCA => { fixed := 4 }
  | .ldd => { fixed := 10 }
  | .lddr => { fixed := 6, perIteration := 7 }
  | .ldi => { fixed := 10 }
  | .ldir => { fixed := 6, perIteration := 7 }

/-- Is it a block move, the only kind of instruction R452 adds clocks to? -/
def isBlockMove : Instr → Bool
  | .ldd => true
  | .lddr => true
  | .ldi => true
  | .ldir => true
  | _ => false

/-- "Add 1 clock for each iteration for the prefix if the prefix is IOI ... IOE, add 2 clocks plus the number of I/O
wait states enabled" (R452). Whether the 2 clocks for IOE come on top of the prefix byte's own 2 (R450), and whether the
addition for IOE is made once or for each iteration, the spec does not say; `clocksWithPrefixes` adds it on top of the
prefix's own clocks and for each iteration, as the sentence before it says of IOI. DESIGN CHOICE, log 27. -/
def ioClocks : Instr → Nat
  | .ioi => 1
  | .ioe => 2 + Config.ioWaitStates
  | _ => 0

/-- The clocks of an instruction with its prefixes that makes the given number of iterations (1 for every instruction
but LDDR and LDIR): the rows' counts, and the I/O additions of a block move, on top of the prefix's own clocks and for
each iteration, for IOE too (R116, R394, R450, R452; for IOE a DESIGN CHOICE, log 27). -/
def clocksWithPrefixes (p : Prefixed) (iterations : Nat) : Nat :=
  (p.pfx.map fun i => (clocks i).fixed).sum + (clocks p.core).fixed
    + (clocks p.core).perIteration * iterations
    + if isBlockMove p.core then (p.pfx.map ioClocks).sum * iterations else 0

end Sys2Proof.Machine
end

