-- ==== Sys2Proof/Safety.lean ====
section
/-! DEFINITION. The terms statements about the machine are made in: states between instructions, the machine's
invariant, what a read answers and what a store leaves, and which instructions may write what. -/

namespace Sys2Proof.Machine

/-- Between instructions no prefix context is left, and `pc0` is the address of the next instruction
(`10_state.md` R55). -/
def AtBoundary (s : State) : Prop := s.altd = false ∧ s.io = none ∧ s.pc0 = s.cpu.pc

/-- The machine's invariant: the memory is in its canonical form, and the state stands between instructions. -/
def Inv (s : State) : Prop := s.mem.wf ∧ AtBoundary s

/-- In state `s`, reading the address `a` of the space `sp` (memory, where it is none) gives `v` and leaves `t`: memory
is only looked at, an I/O space answers the oracle's byte and the read is an event. -/
def ReadsAs (sp : Option IoSpace) (a : Addr) (v : Byte) (s t : State) : Prop :=
  match sp with
  | none => s.peek a = some v ∧ t = s
  | some p =>
    v = Config.ioReadValue s.ioTrace p a ∧ t = { s with ioTrace := s.ioTrace ++ [IoEvent.read p a v] }

/-- Reading a word: the low byte at `a`, then the high byte at `a + 1`. -/
def ReadsWordAs (sp : Option IoSpace) (a : Addr) (w : Word) (s t : State) : Prop :=
  ∃ l h u, ReadsAs sp a l s u ∧ ReadsAs sp (a + 1) h u t ∧ w = h ++ l

/-- The state after the byte `v` was stored at the address `a` of the space `sp` (memory, where it is none). A cell of
memory that admits no write keeps its byte (log 5). -/
def stored (sp : Option IoSpace) (a : Addr) (v : Byte) (s : State) : State :=
  match sp with
  | none => { s with mem := if s.writable a then s.mem.write (s.cell a) v else s.mem }
  | some p => { s with ioTrace := s.ioTrace ++ [IoEvent.write p a v] }

/-- The state after a word was stored: its low byte at `a`, then its high byte at `a + 1`. -/
def storedWord (sp : Option IoSpace) (a : Addr) (w : Word) (s : State) : State :=
  stored sp (a + 1) (w.extractLsb' 8 8) (stored sp a (w.extractLsb' 0 8) s)

/-- The state after a change to the bank a destination goes to: the main one, or the alternate one under ALTD. -/
def State.onDest (s : State) (g : Bank → Bank) : State :=
  if s.altd then { s with cpu := { s.cpu with alt := g s.cpu.alt } }
  else { s with cpu := { s.cpu with main := g s.cpu.main } }

end Sys2Proof.Machine

namespace Sys2Proof

/-- The rows in the source's extent of the twelve one-byte `(HL)` instructions (`43_inc_io_ip.md` R260). -/
def Instr.bugRow : Instr → Bool
  | .adcAAtHL | .addAAtHL | .andAtHL | .cpAtHL | .decAtHL | .incAtHL => true
  | .ldAAtHL | .ldBAtHL | .ldCAtHL | .ldDAtHL | .ldEAtHL | .ldHAtHL | .ldLAtHL => true
  | .ldAtHLA | .ldAtHLB | .ldAtHLC | .ldAtHLD | .ldAtHLE | .ldAtHLH | .ldAtHLL => true
  | _ => false

/-- The rows that write IP (`10_state.md` R33). -/
def Instr.writesIp : Instr → Bool
  | .ipset0 | .ipset1 | .ipset2 | .ipset3 | .ipres => true
  | _ => false

/-- The rows that write XPC (R33, R37). -/
def Instr.writesXpc : Instr → Bool
  | .ldXPCA | .lcallxmn _ _ => true
  | _ => false

/-- The rows that write SP (R33). -/
def Instr.writesSp : Instr → Bool
  | .addSPd _ | .incSP | .decSP | .ldSPmn _ | .ldSPAtmn _ | .ldSPHL | .ldSPIX | .ldSPIY => true
  | .callmn _ | .lcallxmn _ _ => true
  | _ => false

/-- The rows that write IX (R33). -/
def Instr.writesIx : Instr → Bool
  | .addIXBC | .addIXDE | .addIXIX | .addIXSP | .andIXDE | .boolIX | .incIX | .decIX => true
  | .ldIXAtmn _ | .ldIXAtSPn _ | .ldIXHL | .ldIXmn _ | .exAtSPIX => true
  | _ => false

/-- The rows that write IY (R33). -/
def Instr.writesIy : Instr → Bool
  | .addIYBC | .addIYDE | .addIYIY | .addIYSP | .andIYDE | .boolIY | .incIY | .decIY => true
  | .ldIYAtmn _ | .ldIYAtSPn _ | .ldIYHL | .ldIYmn _ | .exAtSPIY => true
  | _ => false

/-- The rows that write the alternate registers without an ALTD prefix (R32). -/
def Instr.writesAlt : Instr → Bool
  | .exAFAFalt | .exx | .exDEaltHL => true
  | .ldBCaltBC | .ldDEaltBC | .ldHLaltBC | .ldBCaltDE | .ldDEaltDE | .ldHLaltDE => true
  | _ => false

/-- The rows that write a flag: every row of the table of R42 but its last. -/
def Instr.writesFlags : Instr → Bool
  | .adcAAtHL | .adcAAtIXd _ | .adcAAtIYd _ | .adcAn _ | .adcAB | .adcAC | .adcAD | .adcAE | .adcAH | .adcAL => true
  | .adcAA | .adcHLBC | .adcHLDE | .adcHLHL | .adcHLSP | .addAAtHL | .addAAtIXd _ | .addAAtIYd _ | .addAn _ => true
  | .addAB | .addAC | .addAD | .addAE | .addAH | .addAL | .addAA | .addHLBC | .addHLDE | .addHLHL | .addHLSP => true
  | .addIXBC | .addIXDE | .addIXIX | .addIXSP | .addIYBC | .addIYDE | .addIYIY | .addIYSP | .addSPd _ => true
  | .andAtHL | .andAtIXd _ | .andAtIYd _ | .andHLDE | .andIXDE | .andIYDE | .andn _ | .andB | .andC | .andD => true
  | .andE | .andH | .andL | .andA | .bit0AtHL | .bit1AtHL | .bit2AtHL | .bit3AtHL | .bit4AtHL | .bit5AtHL => true
  | .bit6AtHL | .bit7AtHL | .bit0AtIXd _ | .bit1AtIXd _ | .bit2AtIXd _ | .bit3AtIXd _ | .bit4AtIXd _ => true
  | .bit5AtIXd _ | .bit6AtIXd _ | .bit7AtIXd _ | .bit0AtIYd _ | .bit1AtIYd _ | .bit2AtIYd _ | .bit3AtIYd _ => true
  | .bit4AtIYd _ | .bit5AtIYd _ | .bit6AtIYd _ | .bit7AtIYd _ | .bit0B | .bit0C | .bit0D | .bit0E | .bit0H => true
  | .bit0L | .bit0A | .bit1B | .bit1C | .bit1D | .bit1E | .bit1H | .bit1L | .bit1A | .bit2B | .bit2C | .bit2D => true
  | .bit2E | .bit2H | .bit2L | .bit2A | .bit3B | .bit3C | .bit3D | .bit3E | .bit3H | .bit3L | .bit3A | .bit4B => true
  | .bit4C | .bit4D | .bit4E | .bit4H | .bit4L | .bit4A | .bit5B | .bit5C | .bit5D | .bit5E | .bit5H | .bit5L => true
  | .bit5A | .bit6B | .bit6C | .bit6D | .bit6E | .bit6H | .bit6L | .bit6A | .bit7B | .bit7C | .bit7D | .bit7E => true
  | .bit7H | .bit7L | .bit7A | .boolHL | .boolIX | .boolIY | .ccf | .cpAtHL | .cpAtIXd _ | .cpAtIYd _ => true
  | .cpn _ | .cpB | .cpC | .cpD | .cpE | .cpH | .cpL | .cpA | .decAtHL | .decAtIXd _ | .decAtIYd _ | .decB => true
  | .decC | .decD | .decE | .decH | .decL | .decA | .incAtHL | .incAtIXd _ | .incAtIYd _ | .incB | .incC => true
  | .incD | .incE | .incH | .incL | .incA | .ldAEIR | .ldAIIR | .ldd | .lddr | .ldi | .ldir => true
  | _ => false

end Sys2Proof
end

