-- ==== Sys2Proof/Certificates/Slice0/Obligations.lean ====
section
/-! DEFINITION. The statements for the provers. Section `Expect` says results and flags by exact arithmetic on natural
numbers and integers, independently of the formulas of `Machine/Flags.lean`; then one `def Obligations.<Name>` each.
Every result statement gives the WHOLE next state, so that it is the instruction's frame as well: what the written state
does not change is unchanged. `s.onDest g` changes the bank a destination goes to (the alternate bank under ALTD, R14,
R168); `ReadsAs` and `stored` say what a read answers and what a store leaves, in memory or in an I/O space (R15). -/

namespace Sys2Proof.Expect

open Machine

/-- The pair BC of a bank, B the high byte (R11, R31). -/
def bc (k : Bank) : Word := k.b ++ k.c

/-- The pair DE of a bank. -/
def de (k : Bank) : Word := k.d ++ k.e

/-- The pair HL of a bank. -/
def hl (k : Bank) : Word := k.h ++ k.l

/-- `ss` (R19). -/
def ss (c : Cpu) : SS → Word
  | .bc => bc c.main
  | .de => de c.main
  | .hl => hl c.main
  | .sp => c.sp

/-- `xx`, `yy` (R19): the index register itself is given as `self`. -/
def xx (c : Cpu) (self : Word) : XX → Word
  | .bc => bc c.main
  | .de => de c.main
  | .self => self
  | .sp => c.sp

/-- A bank with a new value in a pair: the high byte to the first register of the pair (R31). -/
def setPair (k : Bank) (q : Pair) (v : Word) : Bank :=
  match q with
  | .bc => { k with b := v.extractLsb' 8 8, c := v.extractLsb' 0 8 }
  | .de => { k with d := v.extractLsb' 8 8, e := v.extractLsb' 0 8 }
  | .hl => { k with h := v.extractLsb' 8 8, l := v.extractLsb' 0 8 }

/-- A bank with a new value in a byte register. -/
def setReg (k : Bank) (r : Reg8) (v : Byte) : Bank :=
  match r with
  | .a => { k with a := v }
  | .b => { k with b := v }
  | .c => { k with c := v }
  | .d => { k with d := v }
  | .e => { k with e := v }
  | .h => { k with h := v }
  | .l => { k with l := v }

/-- The byte in a register of a bank. -/
def reg (k : Bank) : Reg8 → Byte
  | .a => k.a
  | .b => k.b
  | .c => k.c
  | .d => k.d
  | .e => k.e
  | .h => k.h
  | .l => k.l

/-- A state with a new value in `dd` or `ss`: under ALTD in the alternate of BC, DE, HL; SP has none (R14, R169). -/
def putSS (s : State) (r : SS) (v : Word) : State :=
  match r with
  | .bc => s.onDest fun k => setPair k .bc v
  | .de => s.onDest fun k => setPair k .de v
  | .hl => s.onDest fun k => setPair k .hl v
  | .sp => { s with cpu := { s.cpu with sp := v } }

/-- The index register. -/
def index (c : Cpu) : Index → Word
  | .ix => c.ix
  | .iy => c.iy

/-- A state with a new value in an index register. -/
def putIndex (s : State) (i : Index) (v : Word) : State :=
  match i with
  | .ix => { s with cpu := { s.cpu with ix := v } }
  | .iy => { s with cpu := { s.cpu with iy := v } }

/-- The sum of two bytes and a carry, modulo 256. -/
def sum8 (a v : Byte) (cin : Bool) : Byte := BitVec.ofNat 8 (a.toNat + v.toNat + cin.toNat)

/-- The flags of an 8-bit sum: S and Z of the result, V iff the exact signed sum leaves -128 to 127, C iff the exact
unsigned sum leaves 0 to 255. -/
def sumFlags8 (a v : Byte) (cin : Bool) (old : Flags) : Flags :=
  { s := decide ((sum8 a v cin).toInt < 0)
    z := decide (sum8 a v cin = 0)
    lv := decide (a.toInt + v.toInt + cin.toNat < -128 ∨ 127 < a.toInt + v.toInt + cin.toNat)
    c := decide (256 ≤ a.toNat + v.toNat + cin.toNat)
    other := old.other }

/-- The sum of two words and a carry, modulo 65536. -/
def sum16 (a v : Word) (cin : Bool) : Word := BitVec.ofNat 16 (a.toNat + v.toNat + cin.toNat)

/-- The flags of a 16-bit sum with carry, all four from the 16-bit result. -/
def sumFlags16 (a v : Word) (cin : Bool) (old : Flags) : Flags :=
  { s := decide ((sum16 a v cin).toInt < 0)
    z := decide (sum16 a v cin = 0)
    lv := decide (a.toInt + v.toInt + cin.toNat < -32768 ∨ 32767 < a.toInt + v.toInt + cin.toNat)
    c := decide (65536 ≤ a.toNat + v.toNat + cin.toNat)
    other := old.other }

/-- The flags of a comparison `a - v`: C iff `a` is less unsigned, Z iff they are equal, V iff the exact signed
difference leaves -128 to 127, S the sign of the 8-bit difference. -/
def compareFlags (a v : Byte) (old : Flags) : Flags :=
  { s := decide ((a - v).toInt < 0)
    z := decide (a = v)
    lv := decide (a.toInt - v.toInt < -128 ∨ 127 < a.toInt - v.toInt)
    c := decide (a.toNat < v.toNat)
    other := old.other }

/-- The flags of an 8-bit AND: L iff the result is 16 or more, C cleared. -/
def andFlags8 (r : Byte) (old : Flags) : Flags :=
  { s := decide (128 ≤ r.toNat), z := decide (r = 0), lv := decide (16 ≤ r.toNat), c := false, other := old.other }

/-- The flags of a 16-bit AND: L iff the result is 1000h or more, C cleared. -/
def andFlags16 (r : Word) (old : Flags) : Flags :=
  { s := decide (0x8000 ≤ r.toNat), z := decide (r = 0), lv := decide (0x1000 ≤ r.toNat), c := false,
    other := old.other }

/-- The flags of an increment of the signed value `x` to the byte `r`: C is kept. -/
def incFlags (x : Int) (r : Byte) (old : Flags) : Flags :=
  { old with s := decide (r.toInt < 0), z := decide (r = 0), lv := decide (127 < x + 1) }

/-- The flags of a decrement of the signed value `x` to the byte `r`: C is kept. -/
def decFlags (x : Int) (r : Byte) (old : Flags) : Flags :=
  { old with s := decide (r.toInt < 0), z := decide (r = 0), lv := decide (x - 1 < -128) }

/-- The Accumulator and the flags after `A + v + cin`. -/
def addTo (v : Byte) (cin : Bool) (s : State) : State :=
  s.onDest fun k => { k with a := sum8 s.cpu.main.a v cin, f := sumFlags8 s.cpu.main.a v cin k.f }

/-- The Accumulator and the flags after `A & v`. -/
def andTo (v : Byte) (s : State) : State :=
  s.onDest fun k => { k with a := s.cpu.main.a &&& v, f := andFlags8 (s.cpu.main.a &&& v) k.f }

/-- The flags after `A - v`. -/
def compareTo (v : Byte) (s : State) : State :=
  s.onDest fun k => { k with f := compareFlags s.cpu.main.a v k.f }

/-- The flags after a test of bit `n` of `v`: Z alone. -/
def tested (n : Nat) (v : Byte) (s : State) : State :=
  s.onDest fun k => { k with f := { k.f with z := !v.getLsbD n } }

/-- A byte in a destination register. -/
def loaded (r : Reg8) (v : Byte) (s : State) : State := s.onDest fun k => setReg k r v

/-- The bit number (R120). -/
def bitNumber : BitNo → Nat
  | .b0 => 0
  | .b1 => 1
  | .b2 => 2
  | .b3 => 3
  | .b4 => 4
  | .b5 => 5
  | .b6 => 6
  | .b7 => 7

/-- The I/O space a one-byte `(HL)` instruction of the twelve accesses (R260). -/
def bugSpaceOf (s : State) : Option IoSpace := s.io.or s.ioBug

/-- The one case in which a member of the twelve has no meaning (R260). -/
def bugMeaningless (s : State) : Prop := s.altd = true ∧ s.ioBug ≠ none

/-- `IX + d`, `IY + d`. -/
def atIndex (s : State) (i : Index) (d : Byte) : Addr := index s.cpu i + d.signExtend 16

/-- A state with a new PC. -/
def atPc (s : State) (a : Addr) : State := { s with cpu := { s.cpu with pc := a } }

/-- Is the condition true of the flags (R41)? -/
def condHolds (f : Flags) : Cond → Bool
  | .nz => f.z == false
  | .z => f.z == true
  | .nc => f.c == false
  | .c => f.c == true
  | .lz => f.lv == false
  | .lo => f.lv == true
  | .p => f.s == false
  | .m => f.s == true

/-- The condition of `JR cc,e` among those of `JP f,mn`. -/
def ofJr : CondJr → Cond
  | .nz => .nz
  | .z => .z
  | .nc => .nc
  | .c => .c

/-- An interrupt priority as a number (R401). -/
def rank : Priority → Nat
  | .p1 => 1
  | .p2 => 2
  | .p3 => 3

/-- The state after one move of a block instruction: the byte `v` was read at HL, `t` is the state after that. -/
def moved (dir : Word) (v : Byte) (t : State) : State :=
  let k := t.cpu.main
  let u := stored t.io (de k) v t
  { u with cpu := { u.cpu with main := { k with
      b := (bc k - 1).extractLsb' 8 8, c := (bc k - 1).extractLsb' 0 8
      d := (de k + dir).extractLsb' 8 8, e := (de k + dir).extractLsb' 0 8
      h := (hl k + dir).extractLsb' 8 8, l := (hl k + dir).extractLsb' 0 8
      f := { k.f with lv := decide (bc k ≠ 1) } } } }

/-- Make `n` iterations of a repeating block move, one after the other. -/
def repeated (i : Instr) : Nat → State → Out
  | 0, s => .next s
  | n + 1, s =>
    match exec i s with
    | .next t => repeated i n t
    | .fault f => .fault f
    | .refused r => .refused r

/-- The 70 main-page bytes with no instruction in the source (R126). -/
def emptyMainBytes : List Byte :=
  [0x00, 0x07, 0x0F, 0x17, 0x1F, 0x37, 0x90, 0x91, 0x92, 0x93, 0x94, 0x95, 0x96, 0x97, 0x98, 0x99, 0x9A, 0x9B, 0x9C,
   0x9D, 0x9E, 0x9F, 0xA8, 0xA9, 0xAA, 0xAB, 0xAC, 0xAD, 0xAE, 0xAF, 0xB0, 0xB1, 0xB2, 0xB3, 0xB4, 0xB5, 0xB6, 0xB7,
   0xC0, 0xC1, 0xC5, 0xC7, 0xC8, 0xC9, 0xD0, 0xD1, 0xD5, 0xD6, 0xD7, 0xD8, 0xDE, 0xDF, 0xE0, 0xE1, 0xE5, 0xE7, 0xE8,
   0xEC, 0xEE, 0xEF, 0xF0, 0xF1, 0xF3, 0xF5, 0xF6, 0xF7, 0xF8, 0xFB, 0xFC, 0xFF]

/-- The second bytes after ED that have an instruction (R128). -/
def edBytes : List Byte :=
  [0x41, 0x43, 0x46, 0x47, 0x49, 0x4A, 0x4B, 0x4E, 0x4F, 0x51, 0x53, 0x54, 0x56, 0x57, 0x59, 0x5A, 0x5B, 0x5D, 0x5E,
   0x5F, 0x61, 0x63, 0x67, 0x69, 0x6A, 0x73, 0x77, 0x7A, 0x7B, 0xA0, 0xA8, 0xB0, 0xB8]

/-- The second bytes after DD, and after FD, that have an instruction or open the XY-CB page (R129). -/
def xyBytes : List Byte :=
  [0x09, 0x19, 0x29, 0x39, 0x21, 0x22, 0x23, 0x2A, 0x2B, 0x34, 0x35, 0x36, 0x46, 0x4E, 0x56, 0x5E, 0x66, 0x6E, 0x7E,
   0x70, 0x71, 0x72, 0x73, 0x74, 0x75, 0x77, 0x7C, 0x7D, 0x86, 0x8E, 0xA6, 0xBE, 0xC4, 0xCB, 0xCC, 0xD4, 0xDC, 0xE3,
   0xE4, 0xE9, 0xF4, 0xF9]

/-- The last bytes of `DD CB d op3` and `FD CB d op3` that have an instruction (R130). -/
def xyCbBytes : List Byte := [0x46, 0x4E, 0x56, 0x5E, 0x66, 0x6E, 0x76, 0x7E]

end Sys2Proof.Expect

section Statements

open Sys2Proof Sys2Proof.Machine Sys2Proof.Expect

/-! ## Encoding and the step -/

/-- Decode and encode agree on every instruction with its prefixes (R110, R112, R115). -/
def Obligations.DecodeReadsBackEveryEncoding : Prop :=
  ∀ (p : Prefixed) (rest : List Byte), p.rowsWf = true → p.altdWf = true → p.ioWf = true →
    decode (p.encode ++ rest) = .instr p rest

/-- What the decoder accepts is exactly the encoding of what it answers: no bytes have a second reading. -/
def Obligations.DecodeAcceptsOnlyEncodings : Prop :=
  ∀ (bs : List Byte) (p : Prefixed) (rest : List Byte), decode bs = .instr p rest →
    bs = p.encode ++ rest ∧ p.rowsWf = true ∧ p.altdWf = true ∧ p.ioWf = true

/-- Words written out from the spec's encodings decode to the instructions they stand for. That the byte DB is the
prefix IOE is decision D1 (PRESUMED, log 9); that ALTD and IOI may stand before one opcode is decision D7 (log 16). -/
def Obligations.SampleWordsDecode : Prop :=
  decode [0x8E] = .instr ⟨[], .adcAAtHL⟩ [] ∧
  decode [0xDD, 0x8E, 0x05] = .instr ⟨[], .adcAAtIXd 0x05⟩ [] ∧
  decode [0xCB, 0x76] = .instr ⟨[], .bit6AtHL⟩ [] ∧
  decode [0xFD, 0xCB, 0xFF, 0x5E] = .instr ⟨[], .bit3AtIYd 0xFF⟩ [] ∧
  decode [0xCD, 0x11, 0x00] = .instr ⟨[], .callmn 0x0011⟩ [] ∧
  decode [0xCF, 0x00, 0xE0, 0x05] = .instr ⟨[], .lcallxmn 0x05 0xE000⟩ [] ∧
  decode [0xED, 0x5E] = .instr ⟨[], .ipset3⟩ [] ∧
  decode [0xE4, 0x02] = .instr ⟨[], .ldHLAtIXd 0x02⟩ [] ∧
  decode [0xDD, 0xE4, 0x02] = .instr ⟨[], .ldHLAtHLd 0x02⟩ [] ∧
  decode [0xDD, 0x36, 0x05, 0xFF] = .instr ⟨[], .ldAtIXdn 0x05 0xFF⟩ [] ∧
  decode [0x76, 0x19] = .instr ⟨[.altd], .addHLDE⟩ [] ∧
  decode [0xD3, 0x32, 0x30, 0x00] = .instr ⟨[.ioi], .ldAtmnA 0x0030⟩ [] ∧
  decode [0xDB, 0xE4, 0x02] = .instr ⟨[.ioe], .ldHLAtIXd 0x02⟩ [] ∧
  decode [0x76, 0xD3, 0x7E] = .instr ⟨[.altd, .ioi], .ldAAtHL⟩ []

/-- Prefix rows that hold two ALTD or two I/O prefixes are refused, whatever follows (R115; decision D7, log 16). -/
def Obligations.PrefixCombinationsRefused : Prop :=
  ∀ (pfx : List Instr) (rest : List Byte), pfx.all Instr.isPfx = true →
    (2 ≤ pfx.count .altd ∨ 2 ≤ pfx.countP Instr.isIoPfx) →
    decode (pfx.flatMap encode ++ rest) = .badPrefixes

/-- Every unlisted encoding is refused by the step, alone and after every admitted prefix combination: the 70 main-page
bytes without an instruction (R126), `CB 00..3F` and `CB 80..FF` (R127), every second byte after ED, DD and FD that is
not listed, `ED 6B` among them (R128, R129, R133), and every last byte of `DD CB d op3` and `FD CB d op3` that is not
listed (R130). That such bytes are refused is decision D8 (R131, log 17); which prefixes may stand there is D7 (log 16).
-/
def Obligations.UnlistedEncodingsRefused : Prop :=
  ∀ (s : State) (pfx : List Instr) (b d : Byte) (t : List Byte),
    pfx.all Instr.isPfx = true → pfx.count .altd ≤ 1 → pfx.countP Instr.isIoPfx ≤ 1 →
    let refuses (u : List Byte) : Prop :=
      s.fetched = pfx.flatMap encode ++ u → step s = .refused .encodingNotInSource
    (b ∈ emptyMainBytes → refuses (b :: t)) ∧
    (b.toNat < 0x40 ∨ 0x80 ≤ b.toNat → refuses (0xCB :: b :: t)) ∧
    (b ∉ edBytes → refuses (0xED :: b :: t)) ∧
    (b ∉ xyBytes → refuses (0xDD :: b :: t) ∧ refuses (0xFD :: b :: t)) ∧
    (b ∉ xyCbBytes → refuses (0xDD :: 0xCB :: d :: b :: t) ∧ refuses (0xFD :: 0xCB :: d :: b :: t))

/-- Bytes that stand in memory from PC on are what the step fetches, in ascending order modulo 2^16 (R84). -/
def Obligations.FetchReadsTheBytesAtPc : Prop :=
  ∀ (s : State) (bs : List Byte), bs.length ≤ 6 →
    (∀ (n : Nat) (h : n < bs.length), s.peek (s.cpu.pc + BitVec.ofNat 16 n) = some bs[n]) →
    ∃ rest, s.fetched = bs ++ rest

/-- A step runs the decoded instruction: PC moves past the instruction's bytes, `pc0` keeps where they start, the
prefixes set the context, the core has its effect there, and the end of the instruction follows (R13, R36, R112,
R116). -/
def Obligations.StepRunsTheDecodedInstruction : Prop :=
  ∀ (s : State) (p : Prefixed) (rest : List Byte), decode s.fetched = .instr p rest →
    let start : State :=
      { s with
        cpu := { s.cpu with pc := s.cpu.pc + BitVec.ofNat 16 p.length }
        pc0 := s.cpu.pc
        altd := p.pfx.contains .altd
        io := if p.pfx.contains .ioi then some .ioi else if p.pfx.contains .ioe then some .ioe else none }
    step s =
      match exec p.core start with
      | .next t => .next (finishInstr p.core t)
      | .fault f => .fault f
      | .refused r => .refused r

/-- The end of an instruction: the I/O-bug latch takes the instruction's I/O prefix and the prefix context ends (R55,
R58); without interrupt requests nothing else happens, so that after a step the latch says which I/O prefix the
instruction had. That every I/O-prefixed instruction arms the latch, one without an I/O mark too, is the spec's choice
(decisions D7 and D9, log 16, log 18). With requests to come: `InterruptAcceptance` and
`NoInterruptAfterAPrivilegedInstruction`. -/
def Obligations.EndOfInstructionSetsTheLatch : Prop :=
  (∀ (i : Instr) (s : State), s.intRequests = [] →
    finishInstr i s = { s with ioBug := s.io, altd := false, io := none, pc0 := s.cpu.pc }) ∧
  (∀ (s t : State) (p : Prefixed) (rest : List Byte), s.intRequests = [] → decode s.fetched = .instr p rest →
    step s = .next t →
    (t.ioBug = some .ioi ↔ .ioi ∈ p.pfx) ∧ (t.ioBug = some .ioe ↔ .ioe ∈ p.pfx))

/-! ## The prefixes as rows -/

/-- A prefix row completes and sets its part of the instruction context, nothing else (R167, R257, R258). -/
def Obligations.PrefixRowsSetTheContext : Prop :=
  ∀ s : State,
    exec .altd s = .next { s with altd := true } ∧
    exec .ioi s = .next { s with io := some .ioi } ∧
    exec .ioe s = .next { s with io := some .ioe }

/-! ## Invariants and whole-machine rules -/

/-- The state after reset meets the invariant. -/
def Obligations.ResetMeetsTheInvariant : Prop := Inv State.reset

/-- Every step keeps the invariant: the memory stays in its canonical form, and the state after a step stands between
instructions. -/
def Obligations.EveryStepKeepsTheInvariant : Prop :=
  ∀ s t : State, Inv s → step s = .next t → Inv t

/-- What reset leaves. That the latch is none is the spec's decision D12 (R65). Every other value is the model's choice
(log 1 to log 7): PC and XPC 0, IP FFh, every other register 0 with F and F' among them, no memory cell holds a value,
the flat mapping, every cell admits writes, no I/O event, no request; and the state stands between instructions (R55).
-/
def Obligations.ResetState : Prop :=
  State.reset.ioBug = none ∧ State.reset.cpu.pc = 0 ∧ State.reset.cpu.xpc = 0 ∧ State.reset.cpu.ip = 0xFF ∧
  State.reset.cpu.sp = 0 ∧ State.reset.cpu.ix = 0 ∧ State.reset.cpu.iy = 0 ∧ State.reset.cpu.iir = 0 ∧
  State.reset.cpu.eir = 0 ∧ (∀ r, reg State.reset.cpu.main r = 0 ∧ reg State.reset.cpu.alt r = 0) ∧
  State.reset.cpu.main.f = { s := false, z := false, lv := false, c := false, other := 0 } ∧
  State.reset.cpu.alt.f = { s := false, z := false, lv := false, c := false, other := 0 } ∧
  (∀ a, State.reset.peek a = none ∧ State.reset.cell a = a.toNat ∧ State.reset.writable a = true) ∧
  State.reset.ioTrace = [] ∧ State.reset.intRequests = [] ∧ State.reset.altd = false ∧ State.reset.io = none ∧
  State.reset.pc0 = 0

/-- No instruction changes the mapping, which cells admit writes, the latch of the instruction before, or the requests to
come; and the I/O history only grows, over an instruction and over a step (R88). Over a step the mapping and the admitted
writes are as they were, or the step took an interrupt that was pending and above the processor priority, and they are those
the parameter `IntEntry` answers (R402, R410). That no instruction changes them is the model's choice (D10 leaves the
mapping open, log 4; R83 the admitted writes, log 5), and so is that an entry keeps the events before it (log 8). -/
def Obligations.OnlyInterruptEntryChangesTheMapping : Prop :=
  (∀ (i : Instr) (s t : State), exec i s = .next t →
    t.mapping = s.mapping ∧ t.readOnly = s.readOnly ∧ t.ioBug = s.ioBug ∧ t.intRequests = s.intRequests ∧
    ∃ es, t.ioTrace = s.ioTrace ++ es) ∧
  (∀ s t : State, step s = .next t →
    (∃ es, t.ioTrace = s.ioTrace ++ es) ∧
    ((t.mapping = s.mapping ∧ t.readOnly = s.readOnly) ∨
      ∃ (pending : List IntRequest) (later : List (List IntRequest)) (q : IntRequest) (u : State),
        s.intRequests = pending :: later ∧ q ∈ pending ∧ u.mapping = s.mapping ∧ u.readOnly = s.readOnly ∧
        u.intRequests = later ∧ u.cpu.ip.toNat % 4 < rank q.priority ∧
        t.mapping = (Config.intEntry u q u.cpu.pc).mapping ∧ t.readOnly = (Config.intEntry u q u.cpu.pc).readOnly))

/-- Memory through the mapping: after a write that the memory admits the written byte is read at every logical address
that names the written cell, and every other address reads as before; a write that it does not admit changes nothing
(R82, R83; the form of the admitted writes, and that another write is discarded, are the model's, log 5). Without
windows an address is the cell of its own number; the first window that holds an address maps it from its base (R90; the
form of `Translate` is the model's, log 4). -/
def Obligations.MemoryReadAfterWrite : Prop :=
  ∀ (s : State) (a b : Addr) (v : Byte) (w : MapWindow) (t : List MapWindow),
    (s.writable a = true → s.cell b = s.cell a → (stored none a v s).peek b = some v) ∧
    (s.cell b ≠ s.cell a → (stored none a v s).peek b = s.peek b) ∧
    (s.writable a = false → stored none a v s = s) ∧
    (s.writable a = false ↔ ∃ r ∈ s.readOnly, r.first ≤ s.cell a ∧ s.cell a ≤ r.last) ∧
    (s.mapping = [] → s.cell a = a.toNat) ∧
    (s.mapping = w :: t → (w.xpc = none ∨ w.xpc = some s.cpu.xpc) → w.first.toNat ≤ a.toNat → a.toNat ≤ w.last.toNat →
      s.cell a = w.base + (a.toNat - w.first.toNat)) ∧
    (s.mapping = w :: t → ((w.xpc ≠ none ∧ w.xpc ≠ some s.cpu.xpc) ∨ a.toNat < w.first.toNat ∨ w.last.toNat < a.toNat) →
      s.cell a = ({ s with mapping := t } : State).cell a)

/-- A word that `LD (mn),HL` stored is the word `LD IX,(mn)` and `LD IY,(mn)` load, when the two addresses name
different cells that admit writes (log 5): the byte order of stores and loads agrees (R85, R86). Both run without an I/O
prefix. -/
def Obligations.StoredWordIsLoadedBack : Prop :=
  ∀ (s : State) (mn : Addr), s.io = none → s.cell mn ≠ s.cell (mn + 1) →
    s.writable mn = true → s.writable (mn + 1) = true →
    ∃ t, exec (.ldAtmnHL mn) s = .next t ∧
      exec (.ldIXAtmn mn) t = .next { t with cpu := { s.cpu with ix := hl s.cpu.main } } ∧
      exec (.ldIYAtmn mn) t = .next { t with cpu := { s.cpu with iy := hl s.cpu.main } }

/-- IP, XPC, IIR, EIR, SP, IX and IY are written by the instructions that R33 names, and by no other. -/
def Obligations.ControlAndIndexRegistersWrittenOnlyByTheirRows : Prop :=
  ∀ (i : Instr) (s t : State), exec i s = .next t →
    (i.writesIp = false → t.cpu.ip = s.cpu.ip) ∧
    (i.writesXpc = false → t.cpu.xpc = s.cpu.xpc) ∧
    (i ≠ .ldIIRA → t.cpu.iir = s.cpu.iir) ∧
    (i ≠ .ldEIRA → t.cpu.eir = s.cpu.eir) ∧
    (i.writesSp = false → t.cpu.sp = s.cpu.sp) ∧
    (i.writesIx = false → t.cpu.ix = s.cpu.ix) ∧
    (i.writesIy = false → t.cpu.iy = s.cpu.iy)

/-- An instruction outside the rows of R42 that write a flag, and other than `EX AF,AF'`, leaves F and F' alone. -/
def Obligations.OtherInstructionsWriteNoFlag : Prop :=
  ∀ (i : Instr) (s t : State), exec i s = .next t → i.writesFlags = false → i ≠ .exAFAFalt →
    t.cpu.main.f = s.cpu.main.f ∧ t.cpu.alt.f = s.cpu.alt.f

/-- Without ALTD, only the rows of R32 write the alternate registers. -/
def Obligations.AlternateRegistersWrittenOnlyByTheirRows : Prop :=
  ∀ (i : Instr) (s t : State), exec i s = .next t → s.altd = false → i.writesAlt = false → t.cpu.alt = s.cpu.alt

/-- There is no synchronous exception (R400): an instruction is refused only where the spec refuses it, an `LCALL`
target below E000h or an ALTD-prefixed member of the twelve under the latch, and faults only at a memory cell that holds
no value. -/
def Obligations.NoOtherStops : Prop :=
  ∀ (i : Instr) (s : State),
    (∀ r, exec i s = .refused r →
      (∃ x mn, i = .lcallxmn x mn ∧ mn.toNat < 0xE000 ∧ r = .lcallTarget mn) ∨
      (i.bugRow = true ∧ bugMeaningless s ∧ r = .altdAfterIo)) ∧
    (∀ f, exec i s = .fault f → ∃ a, f = .unwrittenCell a ∧ s.peek a = none)

/-- Every member of the twelve is refused under ALTD while the latch is set (R260, U5; decision D9, log 18). -/
def Obligations.TwelveRefusedUnderAltdAndLatch : Prop :=
  ∀ (i : Instr) (s : State), i.bugRow = true → bugMeaningless s → exec i s = .refused .altdAfterIo

/-! ## ADC, ADD, AND -/

/-- `ADC A`, `ADD A`, `AND` and `CP` of a register or a constant (R153, R154, R159, R160, R176, R177, R205, R206). The
flag formulas, and L after AND, are the spec's from general knowledge (decision D19, log 11); the ALTD cells are
recovered (log 30). -/
def Obligations.AccumulatorWithRegistersAndConstants : Prop :=
  ∀ (s : State) (r : Reg8) (n : Byte),
    exec (.adcAr r) s = .next (addTo (reg s.cpu.main r) s.cpu.main.f.c s) ∧
    exec (.adcAn n) s = .next (addTo n s.cpu.main.f.c s) ∧
    exec (.addAr r) s = .next (addTo (reg s.cpu.main r) false s) ∧
    exec (.addAn n) s = .next (addTo n false s) ∧
    exec (.andr r) s = .next (andTo (reg s.cpu.main r) s) ∧
    exec (.andn n) s = .next (andTo n s) ∧
    exec (.cpr r) s = .next (compareTo (reg s.cpu.main r) s) ∧
    exec (.cpn n) s = .next (compareTo n s)

/-- `ADC A`, `ADD A`, `AND` and `CP` of `(IX+d)`, `(IY+d)` and, with the I/O-prefix bug, `(HL)` (R150 to R152, R156 to
R158, R170 to R172, R202 to R204, R260). The flag formulas, and L after AND, are the spec's from general knowledge
(decision D19, log 11); that `d` is signed and the address wraps are decisions D3 and D2 (log 14, log 13); which I/O
space `(HL)` reaches while the latch is set is decision D9 (log 18); the ALTD and I/O cells are recovered (log 30). The
form under ALTD with the latch set is `TwelveRefusedUnderAltdAndLatch`. -/
def Obligations.AccumulatorWithMemory : Prop :=
  ∀ (s t : State) (v d : Byte),
    (ReadsAs s.io (atIndex s .ix d) v s t →
      exec (.adcAAtIXd d) s = .next (addTo v s.cpu.main.f.c t) ∧ exec (.addAAtIXd d) s = .next (addTo v false t) ∧
      exec (.andAtIXd d) s = .next (andTo v t) ∧ exec (.cpAtIXd d) s = .next (compareTo v t)) ∧
    (ReadsAs s.io (atIndex s .iy d) v s t →
      exec (.adcAAtIYd d) s = .next (addTo v s.cpu.main.f.c t) ∧ exec (.addAAtIYd d) s = .next (addTo v false t) ∧
      exec (.andAtIYd d) s = .next (andTo v t) ∧ exec (.cpAtIYd d) s = .next (compareTo v t)) ∧
    (¬ bugMeaningless s → ReadsAs (bugSpaceOf s) (hl s.cpu.main) v s t →
      exec .adcAAtHL s = .next (addTo v s.cpu.main.f.c t) ∧ exec .addAAtHL s = .next (addTo v false t) ∧
      exec .andAtHL s = .next (andTo v t) ∧ exec .cpAtHL s = .next (compareTo v t))

/-- `ADC HL,ss` and `ADD HL,ss` (R155, R161, R47, R48): ADD writes C alone. The flag formulas are the spec's from
general knowledge (decision D19, log 11). -/
def Obligations.AddWords : Prop :=
  ∀ (s : State) (r : SS),
    exec (.adcHLss r) s = .next (s.onDest fun k =>
      { setPair k .hl (sum16 (hl s.cpu.main) (ss s.cpu r) s.cpu.main.f.c) with
        f := sumFlags16 (hl s.cpu.main) (ss s.cpu r) s.cpu.main.f.c k.f }) ∧
    exec (.addHLss r) s = .next (s.onDest fun k =>
      { setPair k .hl (sum16 (hl s.cpu.main) (ss s.cpu r) false) with
        f := { k.f with c := decide (65536 ≤ (hl s.cpu.main).toNat + (ss s.cpu r).toNat) } })

/-- `ADD IX,xx`, `ADD IY,yy` and `ADD SP,d` (R162 to R164): the sum goes to the index register or SP, which have no
alternate; C alone is written, to F' under ALTD. C of `ADD IX,xx` and `ADD IY,yy` is the spec's formula from general
knowledge (decision D19, log 11); C after `ADD SP,d` is the spec's choice D4 (log 12); `d` is signed by decision D3 (log
14). -/
def Obligations.AddIndexRegistersAndSp : Prop :=
  ∀ (s : State) (r : XX) (d : Byte),
    exec (.addIXxx r) s = .next ((putIndex s .ix (sum16 s.cpu.ix (xx s.cpu s.cpu.ix r) false)).onDest fun k =>
      { k with f := { k.f with c := decide (65536 ≤ s.cpu.ix.toNat + (xx s.cpu s.cpu.ix r).toNat) } }) ∧
    exec (.addIYyy r) s = .next ((putIndex s .iy (sum16 s.cpu.iy (xx s.cpu s.cpu.iy r) false)).onDest fun k =>
      { k with f := { k.f with c := decide (65536 ≤ s.cpu.iy.toNat + (xx s.cpu s.cpu.iy r).toNat) } }) ∧
    exec (.addSPd d) s = .next (({ s with cpu := { s.cpu with sp := BitVec.ofInt 16 (s.cpu.sp.toNat + d.toInt) } } :
      State).onDest fun k =>
        { k with f := { k.f with c := decide (65536 ≤ s.cpu.sp.toNat + (d.signExtend 16).toNat) } })

/-- `AND HL,DE`, `AND IX,DE`, `AND IY,DE` (R173 to R175). All their flags, L of the word among them, are the spec's
formulas from general knowledge (decision D19, log 11). -/
def Obligations.AndWords : Prop :=
  ∀ s : State,
    exec .andHLDE s = .next (s.onDest fun k =>
      { setPair k .hl (hl s.cpu.main &&& de s.cpu.main) with
        f := andFlags16 (hl s.cpu.main &&& de s.cpu.main) k.f }) ∧
    exec .andIXDE s = .next ((putIndex s .ix (s.cpu.ix &&& de s.cpu.main)).onDest fun k =>
      { k with f := andFlags16 (s.cpu.ix &&& de s.cpu.main) k.f }) ∧
    exec .andIYDE s = .next ((putIndex s .iy (s.cpu.iy &&& de s.cpu.main)).onDest fun k =>
      { k with f := andFlags16 (s.cpu.iy &&& de s.cpu.main) k.f })

/-! ## BIT, BOOL, CCF, CP, CPL -/

/-- `BIT b,r` for every bit and register: Z alone is written, and it says whether the tested bit is 0 (R193, R51). -/
def Obligations.BitTestsOfRegisters : Prop :=
  ∀ (s : State) (b : BitNo) (r : Reg8),
    exec (.bitbr b r) s = .next (tested (bitNumber b) (reg s.cpu.main r) s)

/-- `BIT b,(HL)`, `BIT b,(IX+d)`, `BIT b,(IY+d)` for every bit (R190 to R192): none is subject to the I/O-prefix bug.
`d` is signed by decision D3 (log 14). -/
def Obligations.BitTestsOfMemory : Prop :=
  ∀ (s t : State) (b : BitNo) (v d : Byte),
    (ReadsAs s.io (hl s.cpu.main) v s t → exec (.bitbAtHL b) s = .next (tested (bitNumber b) v t)) ∧
    (ReadsAs s.io (atIndex s .ix d) v s t → exec (.bitbAtIXd b d) s = .next (tested (bitNumber b) v t)) ∧
    (ReadsAs s.io (atIndex s .iy d) v s t → exec (.bitbAtIYd b d) s = .next (tested (bitNumber b) v t))

/-- `BOOL HL`, `BOOL IX`, `BOOL IY` (R194 to R196): 1 unless the register is 0; S, L/V and C become 0, Z says the
register was 0. S, and Z from the old value, are inferences that the spec marks as its own (R50; log 33). -/
def Obligations.BoolOfWords : Prop :=
  ∀ s : State,
    let fl (v : Word) (k : Bank) : Flags :=
      { s := false, z := decide (v = 0), lv := false, c := false, other := k.f.other }
    let b (v : Word) : Word := if v = 0 then 0 else 1
    exec .boolHL s = .next (s.onDest fun k =>
      { setPair k .hl (b (hl s.cpu.main)) with f := fl (hl s.cpu.main) k }) ∧
    exec .boolIX s = .next ((putIndex s .ix (b s.cpu.ix)).onDest fun k => { k with f := fl s.cpu.ix k }) ∧
    exec .boolIY s = .next ((putIndex s .iy (b s.cpu.iy)).onDest fun k => { k with f := fl s.cpu.iy k })

/-- `CCF` (R201): the carry is inverted; no other flag is written. That under ALTD the main C is read and its complement
goes to F' is decision D5 (log 22). -/
def Obligations.CcfInvertsTheCarry : Prop :=
  ∀ s : State,
    exec .ccf s = .next (s.onDest fun k => { k with f := { k.f with c := !s.cpu.main.f.c } })

/-- `CPL` (R207): encoding, operation, no flag written, the ALTD cell R, not privileged, clocks. -/
def Obligations.CplComplementsTheAccumulator : Prop :=
  encode .cpl = [0x2F] ∧ clocks .cpl = { fixed := 2 } ∧ privileged .cpl = false ∧
  ∀ s : State, exec .cpl s = .next (s.onDest fun k => { k with a := 255 - s.cpu.main.a })

/-! ## INC and DEC -/

/-- `INC r` and `DEC r` (R225, R255, R45): C is kept. S, Z and V are the spec's formulas from general knowledge
(decision D19, log 11). -/
def Obligations.StepRegisters : Prop :=
  ∀ (s : State) (r : Reg8),
    let v := reg s.cpu.main r
    exec (.incr r) s = .next (s.onDest fun k => { setReg k r (v + 1) with f := incFlags v.toInt (v + 1) k.f }) ∧
    exec (.decr r) s = .next (s.onDest fun k => { setReg k r (v - 1) with f := decFlags v.toInt (v - 1) k.f })

/-- `INC` and `DEC` of `(IX+d)`, `(IY+d)` and, with the I/O-prefix bug, `(HL)` (R220 to R222, R250 to R252): the byte is
stored where it was read, and C is kept. S, Z and V are the spec's formulas from general knowledge (decision D19, log
11); `d` is signed by decision D3 (log 14); which I/O space `(HL)` reaches while the latch is set is decision D9 (log
18). The form under ALTD with the latch set is `TwelveRefusedUnderAltdAndLatch`. -/
def Obligations.StepMemory : Prop :=
  ∀ (s t : State) (v d : Byte),
    let inc (sp : Option IoSpace) (a : Addr) : Out :=
      .next ((stored sp a (v + 1) t).onDest fun k => { k with f := incFlags v.toInt (v + 1) k.f })
    let dec (sp : Option IoSpace) (a : Addr) : Out :=
      .next ((stored sp a (v - 1) t).onDest fun k => { k with f := decFlags v.toInt (v - 1) k.f })
    (ReadsAs s.io (atIndex s .ix d) v s t →
      exec (.incAtIXd d) s = inc s.io (atIndex s .ix d) ∧ exec (.decAtIXd d) s = dec s.io (atIndex s .ix d)) ∧
    (ReadsAs s.io (atIndex s .iy d) v s t →
      exec (.incAtIYd d) s = inc s.io (atIndex s .iy d) ∧ exec (.decAtIYd d) s = dec s.io (atIndex s .iy d)) ∧
    (¬ bugMeaningless s → ReadsAs (bugSpaceOf s) (hl s.cpu.main) v s t →
      exec .incAtHL s = inc (bugSpaceOf s) (hl s.cpu.main) ∧ exec .decAtHL s = dec (bugSpaceOf s) (hl s.cpu.main))

/-- `INC` and `DEC` of BC, DE, HL and SP (R226, R256): no flag is written; SP has no alternate, so that
under ALTD it is SP that is written (decision D6, log 15). -/
def Obligations.StepWords : Prop :=
  ∀ (s : State) (r : SS),
    exec (.incss r) s = .next (putSS s r (ss s.cpu r + 1)) ∧
    exec (.decss r) s = .next (putSS s r (ss s.cpu r - 1))

/-- `INC` and `DEC` of IX and IY: encoding, operation, no flag, no prefix effect, not privileged, clocks (R223, R224,
R253, R254). -/
def Obligations.StepIndexRegisters : Prop :=
  (encode .incIX = [0xDD, 0x23] ∧ encode .incIY = [0xFD, 0x23] ∧ encode .decIX = [0xDD, 0x2B] ∧
    encode .decIY = [0xFD, 0x2B]) ∧
  (∀ i ∈ [Instr.incIX, .incIY, .decIX, .decIY], clocks i = { fixed := 4 } ∧ privileged i = false) ∧
  ∀ s : State,
    exec .incIX s = .next { s with cpu := { s.cpu with ix := BitVec.ofNat 16 (s.cpu.ix.toNat + 1) } } ∧
    exec .incIY s = .next { s with cpu := { s.cpu with iy := BitVec.ofNat 16 (s.cpu.iy.toNat + 1) } } ∧
    exec .decIX s = .next { s with cpu := { s.cpu with ix := BitVec.ofNat 16 (s.cpu.ix.toNat + 65535) } } ∧
    exec .decIY s = .next { s with cpu := { s.cpu with iy := BitVec.ofNat 16 (s.cpu.iy.toNat + 65535) } }

/-! ## DJNZ, JP, JR, CALL, LCALL -/

/-- `DJNZ e` and `JR e` (R227, R286): the target is `pcn` plus the signed coded byte; DJNZ's test is on the computed
`B - 1`, also under ALTD (decision D21, log 22). -/
def Obligations.RelativeJumps : Prop :=
  ∀ (s : State) (k : Byte),
    let target : Addr := BitVec.ofInt 16 (s.cpu.pc.toNat + k.toInt)
    exec (.jre k) s = .next (atPc s target) ∧
    (s.cpu.main.b = 1 → exec (.djnze k) s = .next (loaded .b 0 s)) ∧
    (s.cpu.main.b ≠ 1 → exec (.djnze k) s = .next (atPc (loaded .b (s.cpu.main.b - 1) s) target))

/-- `JP f,mn` and `JR cc,e` (R284, R285, R41): the condition reads the main F, also under ALTD (decision D5, log
15); if it is false the Program Counter goes on at `pcn`. -/
def Obligations.ConditionalJumps : Prop :=
  ∀ (s : State) (f : Cond) (cc : CondJr) (mn : Addr) (k : Byte),
    (condHolds s.cpu.main.f f = true → exec (.jpfmn f mn) s = .next (atPc s mn)) ∧
    (condHolds s.cpu.main.f f = false → exec (.jpfmn f mn) s = .next s) ∧
    (condHolds s.cpu.main.f (ofJr cc) = true →
      exec (.jrcce cc k) s = .next (atPc s (BitVec.ofInt 16 (s.cpu.pc.toNat + k.toInt)))) ∧
    (condHolds s.cpu.main.f (ofJr cc) = false → exec (.jrcce cc k) s = .next s)

/-- `JP (HL)`, `JP (IX)`, `JP (IY)`, `JP mn`: encoding, operation, no memory read, no flag, no prefix effect, not
privileged, clocks (R280 to R283). -/
def Obligations.AbsoluteJumps : Prop :=
  (encode .jpAtHL = [0xE9] ∧ encode .jpAtIX = [0xDD, 0xE9] ∧ encode .jpAtIY = [0xFD, 0xE9] ∧
    ∀ m n : Byte, encode (.jpmn (m ++ n)) = [0xC3, n, m]) ∧
  (clocks .jpAtHL = { fixed := 4 } ∧ clocks .jpAtIX = { fixed := 6 } ∧ clocks .jpAtIY = { fixed := 6 } ∧
    ∀ mn, clocks (.jpmn mn) = { fixed := 7 } ∧ privileged (.jpmn mn) = false) ∧
  (∀ i ∈ [Instr.jpAtHL, .jpAtIX, .jpAtIY], privileged i = false) ∧
  ∀ (s : State) (mn : Addr),
    exec .jpAtHL s = .next (atPc s (hl s.cpu.main)) ∧
    exec .jpAtIX s = .next (atPc s s.cpu.ix) ∧
    exec .jpAtIY s = .next (atPc s s.cpu.iy) ∧
    exec (.jpmn mn) s = .next (atPc s mn)

/-- `CALL mn` (R200; `pcn` is pushed by decision D20, log 21): no I/O prefix redirects the stores, no flag is written.
-/
def Obligations.CallPushesTheReturnAddress : Prop :=
  ∀ (s : State) (mn : Addr),
    let u := stored none (s.cpu.sp - 2) (s.cpu.pc.extractLsb' 0 8)
      (stored none (s.cpu.sp - 1) (s.cpu.pc.extractLsb' 8 8) s)
    exec (.callmn mn) s = .next { u with cpu := { s.cpu with sp := s.cpu.sp - 2, pc := mn } }

/-- After `CALL mn` the two bytes at the new SP are the return address, low byte first, when the two stack addresses
name different cells that admit writes (log 5); and every cell but those two is as before. That the return address is
`pcn` is decision D20 (log 21). -/
def Obligations.CallLeavesTheReturnAddressOnTheStack : Prop :=
  ∀ (s t : State) (mn : Addr), exec (.callmn mn) s = .next t →
    (s.cell (s.cpu.sp - 1) ≠ s.cell (s.cpu.sp - 2) →
      s.writable (s.cpu.sp - 1) = true → s.writable (s.cpu.sp - 2) = true →
      t.peek t.cpu.sp = some (s.cpu.pc.extractLsb' 0 8) ∧
      t.peek (t.cpu.sp + 1) = some (s.cpu.pc.extractLsb' 8 8)) ∧
    (∀ c, c ≠ s.cell (s.cpu.sp - 1) → c ≠ s.cell (s.cpu.sp - 2) → t.mem.read c = s.mem.read c)

/-- `LCALL x,mn` with a target from E000h on (R292; the stack layout is that of C4, decision D17, log 19): XPC, PC high
and PC low are pushed under the old XPC. Below E000h it is refused (decision D18). -/
def Obligations.LongCallPushesXpcAndReturnAddress : Prop :=
  ∀ (s : State) (x : Byte) (mn : Addr),
    let u := stored none (s.cpu.sp - 3) (s.cpu.pc.extractLsb' 0 8)
      (stored none (s.cpu.sp - 2) (s.cpu.pc.extractLsb' 8 8) (stored none (s.cpu.sp - 1) s.cpu.xpc s))
    (0xE000 ≤ mn.toNat →
      exec (.lcallxmn x mn) s = .next { u with cpu := { s.cpu with sp := s.cpu.sp - 3, xpc := x, pc := mn } }) ∧
    (mn.toNat < 0xE000 → exec (.lcallxmn x mn) s = .refused (.lcallTarget mn))

/-! ## EX, EXX -/

/-- `EX (SP),HL`, `EX (SP),IX`, `EX (SP),IY` (R228 to R230): the word at SP and the register change places; under ALTD
HL' receives the word (decision D24, log 22). No I/O prefix redirects the accesses. -/
def Obligations.ExchangeWithTheStack : Prop :=
  ∀ (s : State) (w : Word), ReadsWordAs none s.cpu.sp w s s →
    exec .exAtSPHL s = .next ((storedWord none s.cpu.sp (hl s.cpu.main) s).onDest fun k => setPair k .hl w) ∧
    exec .exAtSPIX s = .next (putIndex (storedWord none s.cpu.sp s.cpu.ix s) .ix w) ∧
    exec .exAtSPIY s = .next (putIndex (storedWord none s.cpu.sp s.cpu.iy s) .iy w)

/-- `EX AF,AF'` and `EXX`: encoding, operation (all of F is exchanged), no prefix effect, not privileged, clocks (R232,
R235). -/
def Obligations.ExchangeOfBanks : Prop :=
  (encode .exAFAFalt = [0x08] ∧ encode .exx = [0xD9]) ∧
  (∀ i ∈ [Instr.exAFAFalt, .exx], clocks i = { fixed := 2 } ∧ privileged i = false) ∧
  ∀ s : State,
    let m := s.cpu.main
    let p := s.cpu.alt
    exec .exAFAFalt s = .next { s with cpu := { s.cpu with
      main := { a := p.a, b := m.b, c := m.c, d := m.d, e := m.e, h := m.h, l := m.l, f := p.f }
      alt := { a := m.a, b := p.b, c := p.c, d := p.d, e := p.e, h := p.h, l := p.l, f := m.f } } } ∧
    exec .exx s = .next { s with cpu := { s.cpu with
      main := { a := m.a, b := p.b, c := p.c, d := p.d, e := p.e, h := p.h, l := p.l, f := m.f }
      alt := { a := p.a, b := m.b, c := m.c, d := m.d, e := m.e, h := m.h, l := m.l, f := p.f } } }

/-- `EX DE,HL` and `EX DE',HL`, without and with ALTD: "if (!ALTD) then DE <-> HL else DE <-> HL'" (R233, R234). -/
def Obligations.ExchangeDeAndHl : Prop :=
  ∀ s : State,
    let m := s.cpu.main
    let p := s.cpu.alt
    (s.altd = false →
      exec .exDEHL s = .next { s with cpu := { s.cpu with main := { m with d := m.h, e := m.l, h := m.d, l := m.e } } } ∧
      exec .exDEaltHL s = .next { s with cpu := { s.cpu with
        main := { m with h := p.d, l := p.e }, alt := { p with d := m.h, e := m.l } } }) ∧
    (s.altd = true →
      exec .exDEHL s = .next { s with cpu := { s.cpu with
        main := { m with d := p.h, e := p.l }, alt := { p with h := m.d, l := m.e } } } ∧
      exec .exDEaltHL s = .next { s with cpu := { s.cpu with
        alt := { p with d := p.h, e := p.l, h := p.d, l := p.e } } })

/-! ## IPSET, IPRES and interrupts -/

/-- `IPSET p`: IP is shifted left by two bits and `p` enters bits 1:0; encoding, no flag, no prefix effect, privileged,
clocks (R261 to R264). -/
def Obligations.IpsetPushesAPriority : Prop :=
  (encode .ipset0 = [0xED, 0x46] ∧ encode .ipset1 = [0xED, 0x56] ∧ encode .ipset2 = [0xED, 0x4E] ∧
    encode .ipset3 = [0xED, 0x5E]) ∧
  (∀ i ∈ [Instr.ipset0, .ipset1, .ipset2, .ipset3], clocks i = { fixed := 4 } ∧ privileged i = true) ∧
  ∀ s : State,
    let shifted (p : Nat) : Out :=
      .next { s with cpu := { s.cpu with ip := BitVec.ofNat 8 (s.cpu.ip.toNat * 4 + p) } }
    exec .ipset0 s = shifted 0 ∧ exec .ipset1 s = shifted 1 ∧ exec .ipset2 s = shifted 2 ∧
    exec .ipset3 s = shifted 3

/-- `IPRES`: IP is rotated right by two bits; encoding, no flag, no prefix effect, privileged, clocks (R265). -/
def Obligations.IpresRotatesThePriorities : Prop :=
  encode .ipres = [0xED, 0x5D] ∧ clocks .ipres = { fixed := 4 } ∧ privileged .ipres = true ∧
  ∀ s : State, exec .ipres s = .next { s with cpu := { s.cpu with
    ip := BitVec.ofNat 8 (s.cpu.ip.toNat / 4 + 64 * (s.cpu.ip.toNat % 4)) } }

/-- Acceptance at the end of a non-privileged instruction, for every processor priority and every set of pending
requests (R402, R403, R409): a request of the highest priority pending is offered, and it is accepted iff its priority
exceeds `IP[1:0]`; otherwise the instruction ends as without a request, and only the answer of `IntRequest` is used up.
The return address is the PC the instruction left (R410). A step ends each instruction so
(`StepRunsTheDecodedInstruction`). The form of `IntRequest`, that among requests of one priority the first is offered,
and that they are sampled here, are the model's (decision D13, log 7, log 31). -/
def Obligations.InterruptAcceptance : Prop :=
  ∀ (i : Instr) (s : State) (pending : List IntRequest) (later : List (List IntRequest)),
    privileged i = false → s.intRequests = pending :: later →
    let ended : State := { s with ioBug := s.io, altd := false, io := none, intRequests := later }
    (pending = [] → finishInstr i s = { ended with pc0 := s.cpu.pc }) ∧
    (pending ≠ [] → ∃ q ∈ pending, (∀ r ∈ pending, rank r.priority ≤ rank q.priority) ∧
      (s.cpu.ip.toNat % 4 < rank q.priority →
        let entered := takeInterrupt q s.cpu.pc ended
        finishInstr i s = { entered with pc0 := entered.cpu.pc }) ∧
      (rank q.priority ≤ s.cpu.ip.toNat % 4 → finishInstr i s = { ended with pc0 := s.cpu.pc }))

/-- The privileged rows are exactly those of R405, and no interrupt is accepted at the end of one, whatever requests are
to come: it ends as without them, and they stay for the next boundary (R404; "privileged" means this alone by decision
D25, log 28; that no answer of `IntRequest` is used up is the model's, log 7). -/
def Obligations.NoInterruptAfterAPrivilegedInstruction : Prop :=
  (∀ i : Instr, privileged i = true ↔
    i ∈ [Instr.bit0AtHL, .bit1AtHL, .bit2AtHL, .bit3AtHL, .bit4AtHL, .bit5AtHL, .bit6AtHL, .bit7AtHL, .ipset0, .ipset1,
      .ipset2, .ipset3, .ipres, .ldAXPC, .ldXPCA, .ldSPHL, .ldSPIX, .ldSPIY]) ∧
  (∀ (i : Instr) (s : State), privileged i = true →
    finishInstr i s = { s with ioBug := s.io, altd := false, io := none, pc0 := s.cpu.pc })

/-- Interrupt entry: registers, mapping, admitted writes, requests to come and the byte of every memory cell are those the
parameter `IntEntry` answers for the state, the request and the return address (R410), and the I/O-bug latch is cleared
(R260, decision D9). The model's choices (log 8): the memory is in canonical form, which is the answered memory itself if
that is canonical; the I/O history is the answered one if that extends the history before the entry, which always stays; the
instruction context is kept. -/
def Obligations.InterruptEntryClearsTheLatch : Prop :=
  (∀ (q : IntRequest) (ret : Addr) (s : State),
    let answered := Config.intEntry s q ret
    let t := takeInterrupt q ret s
    t.ioBug = none ∧ t.cpu = answered.cpu ∧ t.mapping = answered.mapping ∧ t.readOnly = answered.readOnly ∧
    t.intRequests = answered.intRequests ∧ (∀ c, t.mem.read c = answered.mem.read c) ∧
    (∀ a, t.peek a = answered.peek a) ∧ t.mem.wf ∧ t.mem = answered.mem.canonical ∧
    (∃ es, t.ioTrace = s.ioTrace ++ es) ∧ t.ioTrace = historyAfter s.ioTrace answered.ioTrace ∧
    t.altd = s.altd ∧ t.io = s.io ∧ t.pc0 = s.pc0) ∧
  (∀ m : Memory, m.wf → m.canonical = m) ∧
  (∀ before own : List IoEvent, historyAfter before (before ++ own) = before ++ own)

/-! ## Stores -/

/-- The byte stores `LD (BC),A`, `LD (DE),A`, `LD (HL),n`, `LD (IX+d),n`, `LD (IX+d),r`, `LD (IY+d),n`, `LD (IY+d),r`,
`LD (mn),A` (R300 to R302, R306, R307, R309 to R311): the byte goes to memory, or to the I/O space of the prefix; and
`LD (HL),r` with the I/O-prefix bug (R303, R260): after an I/O-prefixed instruction the byte goes to that I/O space,
which is decision D9 (log 18). `d` is signed by decision D3 (log 14). The form under ALTD with the latch set is
`TwelveRefusedUnderAltdAndLatch`. -/
def Obligations.ByteStores : Prop :=
  ∀ (s : State) (d n : Byte) (r : Reg8) (mn : Addr),
    let k := s.cpu.main
    exec .ldAtBCA s = .next (stored s.io (bc k) k.a s) ∧
    exec .ldAtDEA s = .next (stored s.io (de k) k.a s) ∧
    exec (.ldAtHLn n) s = .next (stored s.io (hl k) n s) ∧
    exec (.ldAtIXdn d n) s = .next (stored s.io (atIndex s .ix d) n s) ∧
    exec (.ldAtIXdr r d) s = .next (stored s.io (atIndex s .ix d) (reg k r) s) ∧
    exec (.ldAtIYdn d n) s = .next (stored s.io (atIndex s .iy d) n s) ∧
    exec (.ldAtIYdr r d) s = .next (stored s.io (atIndex s .iy d) (reg k r) s) ∧
    exec (.ldAtmnA mn) s = .next (stored s.io mn k.a s) ∧
    (¬ bugMeaningless s → exec (.ldAtHLr r) s = .next (stored (bugSpaceOf s) (hl k) (reg k r) s))

/-- The word stores through an address a prefix can redirect: `LD (HL+d),HL`, `LD (IX+d),HL`, `LD (IY+d),HL`, `LD
(mn),HL` in both encodings, `LD (mn),IX`, `LD (mn),IY`, `LD (mn),ss` (R304, R305, R308, R312 to R315). `d` is signed by
decision D3 (log 14). -/
def Obligations.WordStores : Prop :=
  ∀ (s : State) (d : Byte) (r : SS) (mn : Addr),
    let k := s.cpu.main
    exec (.ldAtHLdHL d) s = .next (storedWord s.io (hl k + d.signExtend 16) (hl k) s) ∧
    exec (.ldAtIXdHL d) s = .next (storedWord s.io (atIndex s .ix d) (hl k) s) ∧
    exec (.ldAtIYdHL d) s = .next (storedWord s.io (atIndex s .iy d) (hl k) s) ∧
    exec (.ldAtmnHL mn) s = .next (storedWord s.io mn (hl k) s) ∧
    exec (.ldAtmnIX mn) s = .next (storedWord s.io mn s.cpu.ix s) ∧
    exec (.ldAtmnIY mn) s = .next (storedWord s.io mn s.cpu.iy s) ∧
    exec (.ldAtmnss r mn) s = .next (storedWord s.io mn (ss s.cpu r) s)

/-- The stack-relative stores `LD (SP+n),HL`, `LD (SP+n),IX`, `LD (SP+n),IY` (R316 to R318): no I/O prefix redirects
them. That `n` is unsigned is the spec's decision D3 (log 14). -/
def Obligations.StackRelativeStores : Prop :=
  ∀ (s : State) (n : Byte),
    let a : Addr := BitVec.ofNat 16 (s.cpu.sp.toNat + n.toNat)
    exec (.ldAtSPnHL n) s = .next (storedWord none a (hl s.cpu.main) s) ∧
    exec (.ldAtSPnIX n) s = .next (storedWord none a s.cpu.ix s) ∧
    exec (.ldAtSPnIY n) s = .next (storedWord none a s.cpu.iy s)

/-! ## Loads -/

/-- `LD r,g` and `LD r,n` (R374, R375): no flag; under ALTD the alternate of `r` receives the main `g`. -/
def Obligations.ByteLoadsFromRegistersAndConstants : Prop :=
  ∀ (s : State) (r g : Reg8) (n : Byte),
    exec (.ldrg r g) s = .next (loaded r (reg s.cpu.main g) s) ∧ exec (.ldrn r n) s = .next (loaded r n s)

/-- `LD A,(BC)`, `LD A,(DE)`, `LD A,(mn)`, `LD r,(IX+d)`, `LD r,(IY+d)` and, with the I/O-prefix bug, `LD r,(HL)` (R340
to R342, R371 to R373, R260). Which I/O space `LD r,(HL)` reads while the latch is set is decision D9 (log 18); `d` is
signed by decision D3 (log 14). The form under ALTD with the latch set is `TwelveRefusedUnderAltdAndLatch`. -/
def Obligations.ByteLoadsFromMemory : Prop :=
  ∀ (s t : State) (r : Reg8) (v d : Byte) (mn : Addr),
    (ReadsAs s.io (bc s.cpu.main) v s t → exec .ldAAtBC s = .next (loaded .a v t)) ∧
    (ReadsAs s.io (de s.cpu.main) v s t → exec .ldAAtDE s = .next (loaded .a v t)) ∧
    (ReadsAs s.io mn v s t → exec (.ldAAtmn mn) s = .next (loaded .a v t)) ∧
    (ReadsAs s.io (atIndex s .ix d) v s t → exec (.ldrAtIXd r d) s = .next (loaded r v t)) ∧
    (ReadsAs s.io (atIndex s .iy d) v s t → exec (.ldrAtIYd r d) s = .next (loaded r v t)) ∧
    (¬ bugMeaningless s → ReadsAs (bugSpaceOf s) (hl s.cpu.main) v s t → exec (.ldrAtHL r) s = .next (loaded r v t))

/-- `LD A,EIR`, `LD A,IIR` (R343, R344; S and Z from the byte are an inference that the spec marks as its own, R52, log
33), `LD A,XPC` (no flag, R345) and `LD XPC,A` (R379):
XPC takes any value and memory cells keep their bytes; the model has a `Translate`, so the refusal of R90 does not
arise (log 4). -/
def Obligations.MovesOfSpecialRegisters : Prop :=
  ∀ s : State,
    let fromInt (v : Byte) : Out := .next (s.onDest fun k =>
      { k with a := v, f := { k.f with s := decide (128 ≤ v.toNat), z := decide (v = 0) } })
    exec .ldAEIR s = fromInt s.cpu.eir ∧ exec .ldAIIR s = fromInt s.cpu.iir ∧
    exec .ldAXPC s = .next (loaded .a s.cpu.xpc s) ∧
    exec .ldXPCA s = .next { s with cpu := { s.cpu with xpc := s.cpu.main.a } }

/-- `LD EIR,A`, `LD IIR,A`: encoding, operation, no flag, no prefix effect, not privileged, clocks (R355, R356). -/
def Obligations.LoadsOfInterruptRegisters : Prop :=
  (encode .ldEIRA = [0xED, 0x47] ∧ encode .ldIIRA = [0xED, 0x4F]) ∧
  (∀ i ∈ [Instr.ldEIRA, .ldIIRA], clocks i = { fixed := 4 } ∧ privileged i = false) ∧
  ∀ s : State,
    exec .ldEIRA s = .next { s with cpu := { s.cpu with eir := s.cpu.main.a } } ∧
    exec .ldIIRA s = .next { s with cpu := { s.cpu with iir := s.cpu.main.a } }

/-- `LD dd,(mn)`, `LD HL,(mn)`, `LD HL,(HL+d)`, `LD HL,(IX+d)`, `LD HL,(IY+d)`, `LD IX,(mn)`, `LD IY,(mn)`: the low
byte at the address first (R346, R347, R357 to R359, R363, R369). `d` is signed by decision D3 (log 14). -/
def Obligations.WordLoadsFromMemory : Prop :=
  ∀ (s t : State) (r : SS) (w : Word) (d : Byte) (mn : Addr),
    (ReadsWordAs s.io mn w s t →
      exec (.ldddAtmn r mn) s = .next (putSS t r w) ∧ exec (.ldIXAtmn mn) s = .next (putIndex t .ix w) ∧
      exec (.ldIYAtmn mn) s = .next (putIndex t .iy w)) ∧
    (ReadsWordAs s.io (hl s.cpu.main + d.signExtend 16) w s t →
      exec (.ldHLAtHLd d) s = .next (t.onDest fun k => setPair k .hl w)) ∧
    (ReadsWordAs s.io (atIndex s .ix d) w s t →
      exec (.ldHLAtIXd d) s = .next (t.onDest fun k => setPair k .hl w)) ∧
    (ReadsWordAs s.io (atIndex s .iy d) w s t →
      exec (.ldHLAtIYd d) s = .next (t.onDest fun k => setPair k .hl w))

/-- `LD HL,(SP+n)`, `LD IX,(SP+n)`, `LD IY,(SP+n)`: always from memory (R360, R364, R370). That `n` is unsigned is the
spec's decision D3 (log 14). -/
def Obligations.WordLoadsFromTheStack : Prop :=
  ∀ (s : State) (w : Word) (n : Byte), ReadsWordAs none (BitVec.ofNat 16 (s.cpu.sp.toNat + n.toNat)) w s s →
    exec (.ldHLAtSPn n) s = .next (s.onDest fun k => setPair k .hl w) ∧
    exec (.ldIXAtSPn n) s = .next (putIndex s .ix w) ∧
    exec (.ldIYAtSPn n) s = .next (putIndex s .iy w)

/-- The word moves between registers and from constants: `LD dd,mn`, `LD HL,IX`, `LD HL,IY` (ALTD cell R), and
`LD dd',BC`, `LD dd',DE`, `LD IX,HL`, `LD IX,mn`, `LD IY,HL`, `LD IY,mn`, `LD SP,HL`, `LD SP,IX`, `LD SP,IY` (no
prefix effect); no flag (R352 to R354, R361, R362, R365 to R368, R376 to R378). -/
def Obligations.WordMoves : Prop :=
  ∀ (s : State) (r : SS) (q : Pair) (mn : Word),
    exec (.ldddmn r mn) s = .next (putSS s r mn) ∧
    exec .ldHLIX s = .next (s.onDest fun k => setPair k .hl s.cpu.ix) ∧
    exec .ldHLIY s = .next (s.onDest fun k => setPair k .hl s.cpu.iy) ∧
    exec (.ldddaltBC q) s = .next { s with cpu := { s.cpu with alt := setPair s.cpu.alt q (bc s.cpu.main) } } ∧
    exec (.ldddaltDE q) s = .next { s with cpu := { s.cpu with alt := setPair s.cpu.alt q (de s.cpu.main) } } ∧
    exec .ldIXHL s = .next (putIndex s .ix (hl s.cpu.main)) ∧
    exec (.ldIXmn mn) s = .next (putIndex s .ix mn) ∧
    exec .ldIYHL s = .next (putIndex s .iy (hl s.cpu.main)) ∧
    exec (.ldIYmn mn) s = .next (putIndex s .iy mn) ∧
    exec .ldSPHL s = .next { s with cpu := { s.cpu with sp := hl s.cpu.main } } ∧
    exec .ldSPIX s = .next { s with cpu := { s.cpu with sp := s.cpu.ix } } ∧
    exec .ldSPIY s = .next { s with cpu := { s.cpu with sp := s.cpu.iy } }

/-! ## Block moves -/

/-- LDI, LDD, and one iteration of LDIR and LDDR (R390 to R394): the source byte comes from memory, the destination is
memory or the I/O space of the prefix; L/V says whether the new BC is not 0 (the inference R53 marks, log 33); the
repeating forms go back to `pc0` while BC is not 0 (one iteration a step: decision D23, log 20). ALTD changes nothing
(R169). -/
def Obligations.BlockMoves : Prop :=
  ∀ (s : State) (v : Byte), s.peek (hl s.cpu.main) = some v →
    exec .ldi s = .next (moved 1 v s) ∧
    exec .ldd s = .next (moved (-1) v s) ∧
    (bc s.cpu.main ≠ 1 →
      exec .ldir s = .next (atPc (moved 1 v s) s.pc0) ∧ exec .lddr s = .next (atPc (moved (-1) v s) s.pc0)) ∧
    (bc s.cpu.main = 1 → exec .ldir s = .next (moved 1 v s) ∧ exec .lddr s = .next (moved (-1) v s))

/-- A repeating block move that makes as many iterations as BC counts (65536 for BC = 0) without a stop ends with BC =
0, L/V clear (the inference R53 marks, log 33), HL and DE moved by that count, and everything but PC, memory and the I/O
history as it was; without an I/O prefix the history is as it was too, and with one the memory. One iteration a step is
decision D23 (log 20). -/
def Obligations.RepeatedMoveEndsWithBcZero : Prop :=
  ∀ (s t : State) (n : Nat),
    n = (if bc s.cpu.main = 0 then 65536 else (bc s.cpu.main).toNat) →
    let ended (h d : Word) : State :=
      { s with
        cpu := { s.cpu with
          main := setPair (setPair (setPair { s.cpu.main with f := { s.cpu.main.f with lv := false } } .bc 0) .hl h) .de d
          pc := t.cpu.pc }
        mem := t.mem
        ioTrace := t.ioTrace }
    let kept : Prop := (s.io = none → t.ioTrace = s.ioTrace) ∧ (s.io ≠ none → t.mem = s.mem)
    (repeated .ldir n s = .next t →
      t = ended (hl s.cpu.main + BitVec.ofNat 16 n) (de s.cpu.main + BitVec.ofNat 16 n) ∧ kept) ∧
    (repeated .lddr n s = .next t →
      t = ended (hl s.cpu.main - BitVec.ofNat 16 n) (de s.cpu.main - BitVec.ofNat 16 n) ∧ kept)

end Statements
end

