-- ==== Sys2Proof/Laws/State.lean ====
section
/-! SUPPORT. For each update of a State or of the registers, what each field is afterwards. -/

namespace Sys2Proof.Machine

@[simp] theorem Cpu.onBank_ix (c : Cpu) (b : Bool) (g : Bank → Bank) : (c.onBank b g).ix = c.ix := by cases b <;> rfl
@[simp] theorem Cpu.onBank_iy (c : Cpu) (b : Bool) (g : Bank → Bank) : (c.onBank b g).iy = c.iy := by cases b <;> rfl
@[simp] theorem Cpu.onBank_sp (c : Cpu) (b : Bool) (g : Bank → Bank) : (c.onBank b g).sp = c.sp := by cases b <;> rfl
@[simp] theorem Cpu.onBank_pc (c : Cpu) (b : Bool) (g : Bank → Bank) : (c.onBank b g).pc = c.pc := by cases b <;> rfl
@[simp] theorem Cpu.onBank_xpc (c : Cpu) (b : Bool) (g : Bank → Bank) : (c.onBank b g).xpc = c.xpc := by cases b <;> rfl
@[simp] theorem Cpu.onBank_ip (c : Cpu) (b : Bool) (g : Bank → Bank) : (c.onBank b g).ip = c.ip := by cases b <;> rfl
@[simp] theorem Cpu.onBank_iir (c : Cpu) (b : Bool) (g : Bank → Bank) : (c.onBank b g).iir = c.iir := by cases b <;> rfl
@[simp] theorem Cpu.onBank_eir (c : Cpu) (b : Bool) (g : Bank → Bank) : (c.onBank b g).eir = c.eir := by cases b <;> rfl

@[simp] theorem Cpu.onBank_false_main (c : Cpu) (g : Bank → Bank) : (c.onBank false g).main = g c.main := rfl
@[simp] theorem Cpu.onBank_false_alt (c : Cpu) (g : Bank → Bank) : (c.onBank false g).alt = c.alt := rfl
@[simp] theorem Cpu.onBank_true_main (c : Cpu) (g : Bank → Bank) : (c.onBank true g).main = c.main := rfl
@[simp] theorem Cpu.onBank_true_alt (c : Cpu) (g : Bank → Bank) : (c.onBank true g).alt = g c.alt := rfl


@[simp] theorem State.dst8_cpu (s : State) (r : Reg8) (v : Byte) : (s.dst8 r v).cpu = s.cpu.onBank s.altd (fun k => k.set8 r v) := rfl
@[simp] theorem State.dst8_mem (s : State) (r : Reg8) (v : Byte) : (s.dst8 r v).mem = s.mem := rfl
@[simp] theorem State.dst8_mapping (s : State) (r : Reg8) (v : Byte) : (s.dst8 r v).mapping = s.mapping := rfl
@[simp] theorem State.dst8_readOnly (s : State) (r : Reg8) (v : Byte) : (s.dst8 r v).readOnly = s.readOnly := rfl
@[simp] theorem State.dst8_ioTrace (s : State) (r : Reg8) (v : Byte) : (s.dst8 r v).ioTrace = s.ioTrace := rfl
@[simp] theorem State.dst8_ioBug (s : State) (r : Reg8) (v : Byte) : (s.dst8 r v).ioBug = s.ioBug := rfl
@[simp] theorem State.dst8_altd (s : State) (r : Reg8) (v : Byte) : (s.dst8 r v).altd = s.altd := rfl
@[simp] theorem State.dst8_io (s : State) (r : Reg8) (v : Byte) : (s.dst8 r v).io = s.io := rfl
@[simp] theorem State.dst8_pc0 (s : State) (r : Reg8) (v : Byte) : (s.dst8 r v).pc0 = s.pc0 := rfl
@[simp] theorem State.dst8_intRequests (s : State) (r : Reg8) (v : Byte) : (s.dst8 r v).intRequests = s.intRequests := rfl

@[simp] theorem State.dst16_cpu (s : State) (q : Pair) (v : Word) : (s.dst16 q v).cpu = s.cpu.onBank s.altd (fun k => k.set16 q v) := rfl
@[simp] theorem State.dst16_mem (s : State) (q : Pair) (v : Word) : (s.dst16 q v).mem = s.mem := rfl
@[simp] theorem State.dst16_mapping (s : State) (q : Pair) (v : Word) : (s.dst16 q v).mapping = s.mapping := rfl
@[simp] theorem State.dst16_readOnly (s : State) (q : Pair) (v : Word) : (s.dst16 q v).readOnly = s.readOnly := rfl
@[simp] theorem State.dst16_ioTrace (s : State) (q : Pair) (v : Word) : (s.dst16 q v).ioTrace = s.ioTrace := rfl
@[simp] theorem State.dst16_ioBug (s : State) (q : Pair) (v : Word) : (s.dst16 q v).ioBug = s.ioBug := rfl
@[simp] theorem State.dst16_altd (s : State) (q : Pair) (v : Word) : (s.dst16 q v).altd = s.altd := rfl
@[simp] theorem State.dst16_io (s : State) (q : Pair) (v : Word) : (s.dst16 q v).io = s.io := rfl
@[simp] theorem State.dst16_pc0 (s : State) (q : Pair) (v : Word) : (s.dst16 q v).pc0 = s.pc0 := rfl
@[simp] theorem State.dst16_intRequests (s : State) (q : Pair) (v : Word) : (s.dst16 q v).intRequests = s.intRequests := rfl

@[simp] theorem State.setFlags_cpu (s : State) (w : FlagWrite) : (s.setFlags w).cpu = s.cpu.onBank s.altd (fun k => { k with f := k.f.write w }) := rfl
@[simp] theorem State.setFlags_mem (s : State) (w : FlagWrite) : (s.setFlags w).mem = s.mem := rfl
@[simp] theorem State.setFlags_mapping (s : State) (w : FlagWrite) : (s.setFlags w).mapping = s.mapping := rfl
@[simp] theorem State.setFlags_readOnly (s : State) (w : FlagWrite) : (s.setFlags w).readOnly = s.readOnly := rfl
@[simp] theorem State.setFlags_ioTrace (s : State) (w : FlagWrite) : (s.setFlags w).ioTrace = s.ioTrace := rfl
@[simp] theorem State.setFlags_ioBug (s : State) (w : FlagWrite) : (s.setFlags w).ioBug = s.ioBug := rfl
@[simp] theorem State.setFlags_altd (s : State) (w : FlagWrite) : (s.setFlags w).altd = s.altd := rfl
@[simp] theorem State.setFlags_io (s : State) (w : FlagWrite) : (s.setFlags w).io = s.io := rfl
@[simp] theorem State.setFlags_pc0 (s : State) (w : FlagWrite) : (s.setFlags w).pc0 = s.pc0 := rfl
@[simp] theorem State.setFlags_intRequests (s : State) (w : FlagWrite) : (s.setFlags w).intRequests = s.intRequests := rfl

@[simp] theorem State.onMain_cpu (s : State) (g : Bank → Bank) : (s.onMain g).cpu = s.cpu.onBank false g := rfl
@[simp] theorem State.onMain_mem (s : State) (g : Bank → Bank) : (s.onMain g).mem = s.mem := rfl
@[simp] theorem State.onMain_mapping (s : State) (g : Bank → Bank) : (s.onMain g).mapping = s.mapping := rfl
@[simp] theorem State.onMain_readOnly (s : State) (g : Bank → Bank) : (s.onMain g).readOnly = s.readOnly := rfl
@[simp] theorem State.onMain_ioTrace (s : State) (g : Bank → Bank) : (s.onMain g).ioTrace = s.ioTrace := rfl
@[simp] theorem State.onMain_ioBug (s : State) (g : Bank → Bank) : (s.onMain g).ioBug = s.ioBug := rfl
@[simp] theorem State.onMain_altd (s : State) (g : Bank → Bank) : (s.onMain g).altd = s.altd := rfl
@[simp] theorem State.onMain_io (s : State) (g : Bank → Bank) : (s.onMain g).io = s.io := rfl
@[simp] theorem State.onMain_pc0 (s : State) (g : Bank → Bank) : (s.onMain g).pc0 = s.pc0 := rfl
@[simp] theorem State.onMain_intRequests (s : State) (g : Bank → Bank) : (s.onMain g).intRequests = s.intRequests := rfl

@[simp] theorem State.onAlt_cpu (s : State) (g : Bank → Bank) : (s.onAlt g).cpu = s.cpu.onBank true g := rfl
@[simp] theorem State.onAlt_mem (s : State) (g : Bank → Bank) : (s.onAlt g).mem = s.mem := rfl
@[simp] theorem State.onAlt_mapping (s : State) (g : Bank → Bank) : (s.onAlt g).mapping = s.mapping := rfl
@[simp] theorem State.onAlt_readOnly (s : State) (g : Bank → Bank) : (s.onAlt g).readOnly = s.readOnly := rfl
@[simp] theorem State.onAlt_ioTrace (s : State) (g : Bank → Bank) : (s.onAlt g).ioTrace = s.ioTrace := rfl
@[simp] theorem State.onAlt_ioBug (s : State) (g : Bank → Bank) : (s.onAlt g).ioBug = s.ioBug := rfl
@[simp] theorem State.onAlt_altd (s : State) (g : Bank → Bank) : (s.onAlt g).altd = s.altd := rfl
@[simp] theorem State.onAlt_io (s : State) (g : Bank → Bank) : (s.onAlt g).io = s.io := rfl
@[simp] theorem State.onAlt_pc0 (s : State) (g : Bank → Bank) : (s.onAlt g).pc0 = s.pc0 := rfl
@[simp] theorem State.onAlt_intRequests (s : State) (g : Bank → Bank) : (s.onAlt g).intRequests = s.intRequests := rfl

@[simp] theorem State.setSp_cpu (s : State) (v : Word) : (s.setSp v).cpu = { s.cpu with sp := v } := rfl
@[simp] theorem State.setSp_mem (s : State) (v : Word) : (s.setSp v).mem = s.mem := rfl
@[simp] theorem State.setSp_mapping (s : State) (v : Word) : (s.setSp v).mapping = s.mapping := rfl
@[simp] theorem State.setSp_readOnly (s : State) (v : Word) : (s.setSp v).readOnly = s.readOnly := rfl
@[simp] theorem State.setSp_ioTrace (s : State) (v : Word) : (s.setSp v).ioTrace = s.ioTrace := rfl
@[simp] theorem State.setSp_ioBug (s : State) (v : Word) : (s.setSp v).ioBug = s.ioBug := rfl
@[simp] theorem State.setSp_altd (s : State) (v : Word) : (s.setSp v).altd = s.altd := rfl
@[simp] theorem State.setSp_io (s : State) (v : Word) : (s.setSp v).io = s.io := rfl
@[simp] theorem State.setSp_pc0 (s : State) (v : Word) : (s.setSp v).pc0 = s.pc0 := rfl
@[simp] theorem State.setSp_intRequests (s : State) (v : Word) : (s.setSp v).intRequests = s.intRequests := rfl

@[simp] theorem State.setPc_cpu (s : State) (v : Addr) : (s.setPc v).cpu = { s.cpu with pc := v } := rfl
@[simp] theorem State.setPc_mem (s : State) (v : Addr) : (s.setPc v).mem = s.mem := rfl
@[simp] theorem State.setPc_mapping (s : State) (v : Addr) : (s.setPc v).mapping = s.mapping := rfl
@[simp] theorem State.setPc_readOnly (s : State) (v : Addr) : (s.setPc v).readOnly = s.readOnly := rfl
@[simp] theorem State.setPc_ioTrace (s : State) (v : Addr) : (s.setPc v).ioTrace = s.ioTrace := rfl
@[simp] theorem State.setPc_ioBug (s : State) (v : Addr) : (s.setPc v).ioBug = s.ioBug := rfl
@[simp] theorem State.setPc_altd (s : State) (v : Addr) : (s.setPc v).altd = s.altd := rfl
@[simp] theorem State.setPc_io (s : State) (v : Addr) : (s.setPc v).io = s.io := rfl
@[simp] theorem State.setPc_pc0 (s : State) (v : Addr) : (s.setPc v).pc0 = s.pc0 := rfl
@[simp] theorem State.setPc_intRequests (s : State) (v : Addr) : (s.setPc v).intRequests = s.intRequests := rfl

@[simp] theorem State.setXpc_cpu (s : State) (v : Byte) : (s.setXpc v).cpu = { s.cpu with xpc := v } := rfl
@[simp] theorem State.setXpc_mem (s : State) (v : Byte) : (s.setXpc v).mem = s.mem := rfl
@[simp] theorem State.setXpc_mapping (s : State) (v : Byte) : (s.setXpc v).mapping = s.mapping := rfl
@[simp] theorem State.setXpc_readOnly (s : State) (v : Byte) : (s.setXpc v).readOnly = s.readOnly := rfl
@[simp] theorem State.setXpc_ioTrace (s : State) (v : Byte) : (s.setXpc v).ioTrace = s.ioTrace := rfl
@[simp] theorem State.setXpc_ioBug (s : State) (v : Byte) : (s.setXpc v).ioBug = s.ioBug := rfl
@[simp] theorem State.setXpc_altd (s : State) (v : Byte) : (s.setXpc v).altd = s.altd := rfl
@[simp] theorem State.setXpc_io (s : State) (v : Byte) : (s.setXpc v).io = s.io := rfl
@[simp] theorem State.setXpc_pc0 (s : State) (v : Byte) : (s.setXpc v).pc0 = s.pc0 := rfl
@[simp] theorem State.setXpc_intRequests (s : State) (v : Byte) : (s.setXpc v).intRequests = s.intRequests := rfl

@[simp] theorem State.setIp_cpu (s : State) (v : Byte) : (s.setIp v).cpu = { s.cpu with ip := v } := rfl
@[simp] theorem State.setIp_mem (s : State) (v : Byte) : (s.setIp v).mem = s.mem := rfl
@[simp] theorem State.setIp_mapping (s : State) (v : Byte) : (s.setIp v).mapping = s.mapping := rfl
@[simp] theorem State.setIp_readOnly (s : State) (v : Byte) : (s.setIp v).readOnly = s.readOnly := rfl
@[simp] theorem State.setIp_ioTrace (s : State) (v : Byte) : (s.setIp v).ioTrace = s.ioTrace := rfl
@[simp] theorem State.setIp_ioBug (s : State) (v : Byte) : (s.setIp v).ioBug = s.ioBug := rfl
@[simp] theorem State.setIp_altd (s : State) (v : Byte) : (s.setIp v).altd = s.altd := rfl
@[simp] theorem State.setIp_io (s : State) (v : Byte) : (s.setIp v).io = s.io := rfl
@[simp] theorem State.setIp_pc0 (s : State) (v : Byte) : (s.setIp v).pc0 = s.pc0 := rfl
@[simp] theorem State.setIp_intRequests (s : State) (v : Byte) : (s.setIp v).intRequests = s.intRequests := rfl

@[simp] theorem State.setIir_cpu (s : State) (v : Byte) : (s.setIir v).cpu = { s.cpu with iir := v } := rfl
@[simp] theorem State.setIir_mem (s : State) (v : Byte) : (s.setIir v).mem = s.mem := rfl
@[simp] theorem State.setIir_mapping (s : State) (v : Byte) : (s.setIir v).mapping = s.mapping := rfl
@[simp] theorem State.setIir_readOnly (s : State) (v : Byte) : (s.setIir v).readOnly = s.readOnly := rfl
@[simp] theorem State.setIir_ioTrace (s : State) (v : Byte) : (s.setIir v).ioTrace = s.ioTrace := rfl
@[simp] theorem State.setIir_ioBug (s : State) (v : Byte) : (s.setIir v).ioBug = s.ioBug := rfl
@[simp] theorem State.setIir_altd (s : State) (v : Byte) : (s.setIir v).altd = s.altd := rfl
@[simp] theorem State.setIir_io (s : State) (v : Byte) : (s.setIir v).io = s.io := rfl
@[simp] theorem State.setIir_pc0 (s : State) (v : Byte) : (s.setIir v).pc0 = s.pc0 := rfl
@[simp] theorem State.setIir_intRequests (s : State) (v : Byte) : (s.setIir v).intRequests = s.intRequests := rfl

@[simp] theorem State.setEir_cpu (s : State) (v : Byte) : (s.setEir v).cpu = { s.cpu with eir := v } := rfl
@[simp] theorem State.setEir_mem (s : State) (v : Byte) : (s.setEir v).mem = s.mem := rfl
@[simp] theorem State.setEir_mapping (s : State) (v : Byte) : (s.setEir v).mapping = s.mapping := rfl
@[simp] theorem State.setEir_readOnly (s : State) (v : Byte) : (s.setEir v).readOnly = s.readOnly := rfl
@[simp] theorem State.setEir_ioTrace (s : State) (v : Byte) : (s.setEir v).ioTrace = s.ioTrace := rfl
@[simp] theorem State.setEir_ioBug (s : State) (v : Byte) : (s.setEir v).ioBug = s.ioBug := rfl
@[simp] theorem State.setEir_altd (s : State) (v : Byte) : (s.setEir v).altd = s.altd := rfl
@[simp] theorem State.setEir_io (s : State) (v : Byte) : (s.setEir v).io = s.io := rfl
@[simp] theorem State.setEir_pc0 (s : State) (v : Byte) : (s.setEir v).pc0 = s.pc0 := rfl
@[simp] theorem State.setEir_intRequests (s : State) (v : Byte) : (s.setEir v).intRequests = s.intRequests := rfl

@[simp] theorem State.load_cpu (s : State) (a : Addr) (v : Byte) : (s.load a v).cpu = s.cpu := rfl
@[simp] theorem State.load_mem (s : State) (a : Addr) (v : Byte) : (s.load a v).mem = s.mem.write (s.cell a) v := rfl
@[simp] theorem State.load_mapping (s : State) (a : Addr) (v : Byte) : (s.load a v).mapping = s.mapping := rfl
@[simp] theorem State.load_readOnly (s : State) (a : Addr) (v : Byte) : (s.load a v).readOnly = s.readOnly := rfl
@[simp] theorem State.load_ioTrace (s : State) (a : Addr) (v : Byte) : (s.load a v).ioTrace = s.ioTrace := rfl
@[simp] theorem State.load_ioBug (s : State) (a : Addr) (v : Byte) : (s.load a v).ioBug = s.ioBug := rfl
@[simp] theorem State.load_altd (s : State) (a : Addr) (v : Byte) : (s.load a v).altd = s.altd := rfl
@[simp] theorem State.load_io (s : State) (a : Addr) (v : Byte) : (s.load a v).io = s.io := rfl
@[simp] theorem State.load_pc0 (s : State) (a : Addr) (v : Byte) : (s.load a v).pc0 = s.pc0 := rfl
@[simp] theorem State.load_intRequests (s : State) (a : Addr) (v : Byte) : (s.load a v).intRequests = s.intRequests := rfl

@[simp] theorem memWrite_cpu (a : Addr) (v : Byte) (s : State) : (memWrite a v s).cpu = s.cpu := rfl
@[simp] theorem memWrite_mem (a : Addr) (v : Byte) (s : State) :
    (memWrite a v s).mem = if s.writable a then s.mem.write (s.cell a) v else s.mem := rfl
@[simp] theorem memWrite_mapping (a : Addr) (v : Byte) (s : State) : (memWrite a v s).mapping = s.mapping := rfl
@[simp] theorem memWrite_readOnly (a : Addr) (v : Byte) (s : State) : (memWrite a v s).readOnly = s.readOnly := rfl
@[simp] theorem memWrite_ioTrace (a : Addr) (v : Byte) (s : State) : (memWrite a v s).ioTrace = s.ioTrace := rfl
@[simp] theorem memWrite_ioBug (a : Addr) (v : Byte) (s : State) : (memWrite a v s).ioBug = s.ioBug := rfl
@[simp] theorem memWrite_altd (a : Addr) (v : Byte) (s : State) : (memWrite a v s).altd = s.altd := rfl
@[simp] theorem memWrite_io (a : Addr) (v : Byte) (s : State) : (memWrite a v s).io = s.io := rfl
@[simp] theorem memWrite_pc0 (a : Addr) (v : Byte) (s : State) : (memWrite a v s).pc0 = s.pc0 := rfl
@[simp] theorem memWrite_intRequests (a : Addr) (v : Byte) (s : State) : (memWrite a v s).intRequests = s.intRequests := rfl

@[simp] theorem ioEvent_cpu (e : IoEvent) (s : State) : (ioEvent e s).cpu = s.cpu := rfl
@[simp] theorem ioEvent_mem (e : IoEvent) (s : State) : (ioEvent e s).mem = s.mem := rfl
@[simp] theorem ioEvent_mapping (e : IoEvent) (s : State) : (ioEvent e s).mapping = s.mapping := rfl
@[simp] theorem ioEvent_readOnly (e : IoEvent) (s : State) : (ioEvent e s).readOnly = s.readOnly := rfl
@[simp] theorem ioEvent_ioTrace (e : IoEvent) (s : State) : (ioEvent e s).ioTrace = s.ioTrace ++ [e] := rfl
@[simp] theorem ioEvent_ioBug (e : IoEvent) (s : State) : (ioEvent e s).ioBug = s.ioBug := rfl
@[simp] theorem ioEvent_altd (e : IoEvent) (s : State) : (ioEvent e s).altd = s.altd := rfl
@[simp] theorem ioEvent_io (e : IoEvent) (s : State) : (ioEvent e s).io = s.io := rfl
@[simp] theorem ioEvent_pc0 (e : IoEvent) (s : State) : (ioEvent e s).pc0 = s.pc0 := rfl
@[simp] theorem ioEvent_intRequests (e : IoEvent) (s : State) : (ioEvent e s).intRequests = s.intRequests := rfl

@[simp] theorem ioWrite_cpu (p : IoSpace) (a : Addr) (v : Byte) (s : State) : (ioWrite p a v s).cpu = s.cpu := rfl
@[simp] theorem ioWrite_mem (p : IoSpace) (a : Addr) (v : Byte) (s : State) : (ioWrite p a v s).mem = s.mem := rfl
@[simp] theorem ioWrite_mapping (p : IoSpace) (a : Addr) (v : Byte) (s : State) : (ioWrite p a v s).mapping = s.mapping := rfl
@[simp] theorem ioWrite_readOnly (p : IoSpace) (a : Addr) (v : Byte) (s : State) : (ioWrite p a v s).readOnly = s.readOnly := rfl
@[simp] theorem ioWrite_ioTrace (p : IoSpace) (a : Addr) (v : Byte) (s : State) : (ioWrite p a v s).ioTrace = s.ioTrace ++ [.write p a v] := rfl
@[simp] theorem ioWrite_ioBug (p : IoSpace) (a : Addr) (v : Byte) (s : State) : (ioWrite p a v s).ioBug = s.ioBug := rfl
@[simp] theorem ioWrite_altd (p : IoSpace) (a : Addr) (v : Byte) (s : State) : (ioWrite p a v s).altd = s.altd := rfl
@[simp] theorem ioWrite_io (p : IoSpace) (a : Addr) (v : Byte) (s : State) : (ioWrite p a v s).io = s.io := rfl
@[simp] theorem ioWrite_pc0 (p : IoSpace) (a : Addr) (v : Byte) (s : State) : (ioWrite p a v s).pc0 = s.pc0 := rfl
@[simp] theorem ioWrite_intRequests (p : IoSpace) (a : Addr) (v : Byte) (s : State) : (ioWrite p a v s).intRequests = s.intRequests := rfl

@[simp] theorem endInstr_cpu (s : State) : (endInstr s).cpu = s.cpu := rfl
@[simp] theorem endInstr_mem (s : State) : (endInstr s).mem = s.mem := rfl
@[simp] theorem endInstr_mapping (s : State) : (endInstr s).mapping = s.mapping := rfl
@[simp] theorem endInstr_readOnly (s : State) : (endInstr s).readOnly = s.readOnly := rfl
@[simp] theorem endInstr_ioTrace (s : State) : (endInstr s).ioTrace = s.ioTrace := rfl
@[simp] theorem endInstr_ioBug (s : State) : (endInstr s).ioBug = s.io := rfl
@[simp] theorem endInstr_altd (s : State) : (endInstr s).altd = false := rfl
@[simp] theorem endInstr_io (s : State) : (endInstr s).io = none := rfl
@[simp] theorem endInstr_pc0 (s : State) : (endInstr s).pc0 = s.pc0 := rfl
@[simp] theorem endInstr_intRequests (s : State) : (endInstr s).intRequests = s.intRequests := rfl

@[simp] theorem settle_cpu (s : State) : (settle s).cpu = s.cpu := rfl
@[simp] theorem settle_mem (s : State) : (settle s).mem = s.mem := rfl
@[simp] theorem settle_mapping (s : State) : (settle s).mapping = s.mapping := rfl
@[simp] theorem settle_readOnly (s : State) : (settle s).readOnly = s.readOnly := rfl
@[simp] theorem settle_ioTrace (s : State) : (settle s).ioTrace = s.ioTrace := rfl
@[simp] theorem settle_ioBug (s : State) : (settle s).ioBug = s.ioBug := rfl
@[simp] theorem settle_altd (s : State) : (settle s).altd = s.altd := rfl
@[simp] theorem settle_io (s : State) : (settle s).io = s.io := rfl
@[simp] theorem settle_pc0 (s : State) : (settle s).pc0 = s.cpu.pc := rfl
@[simp] theorem settle_intRequests (s : State) : (settle s).intRequests = s.intRequests := rfl

@[simp] theorem beginInstr_cpu (n : Nat) (s : State) : (beginInstr n s).cpu = { s.cpu with pc := s.cpu.pc + BitVec.ofNat 16 n } := rfl
@[simp] theorem beginInstr_mem (n : Nat) (s : State) : (beginInstr n s).mem = s.mem := rfl
@[simp] theorem beginInstr_mapping (n : Nat) (s : State) : (beginInstr n s).mapping = s.mapping := rfl
@[simp] theorem beginInstr_readOnly (n : Nat) (s : State) : (beginInstr n s).readOnly = s.readOnly := rfl
@[simp] theorem beginInstr_ioTrace (n : Nat) (s : State) : (beginInstr n s).ioTrace = s.ioTrace := rfl
@[simp] theorem beginInstr_ioBug (n : Nat) (s : State) : (beginInstr n s).ioBug = s.ioBug := rfl
@[simp] theorem beginInstr_altd (n : Nat) (s : State) : (beginInstr n s).altd = false := rfl
@[simp] theorem beginInstr_io (n : Nat) (s : State) : (beginInstr n s).io = none := rfl
@[simp] theorem beginInstr_pc0 (n : Nat) (s : State) : (beginInstr n s).pc0 = s.cpu.pc := rfl
@[simp] theorem beginInstr_intRequests (n : Nat) (s : State) : (beginInstr n s).intRequests = s.intRequests := rfl

@[simp] theorem State.setIdx_mem (s : State) (i : Index) (v : Word) : (s.setIdx i v).mem = s.mem := by cases i <;> rfl
@[simp] theorem State.setIdx_mapping (s : State) (i : Index) (v : Word) : (s.setIdx i v).mapping = s.mapping := by cases i <;> rfl
@[simp] theorem State.setIdx_readOnly (s : State) (i : Index) (v : Word) : (s.setIdx i v).readOnly = s.readOnly := by cases i <;> rfl
@[simp] theorem State.setIdx_ioTrace (s : State) (i : Index) (v : Word) : (s.setIdx i v).ioTrace = s.ioTrace := by cases i <;> rfl
@[simp] theorem State.setIdx_ioBug (s : State) (i : Index) (v : Word) : (s.setIdx i v).ioBug = s.ioBug := by cases i <;> rfl
@[simp] theorem State.setIdx_altd (s : State) (i : Index) (v : Word) : (s.setIdx i v).altd = s.altd := by cases i <;> rfl
@[simp] theorem State.setIdx_io (s : State) (i : Index) (v : Word) : (s.setIdx i v).io = s.io := by cases i <;> rfl
@[simp] theorem State.setIdx_pc0 (s : State) (i : Index) (v : Word) : (s.setIdx i v).pc0 = s.pc0 := by cases i <;> rfl
@[simp] theorem State.setIdx_intRequests (s : State) (i : Index) (v : Word) : (s.setIdx i v).intRequests = s.intRequests := by cases i <;> rfl
@[simp] theorem State.setIdx_cpu_main (s : State) (i : Index) (v : Word) : (s.setIdx i v).cpu.main = s.cpu.main := by cases i <;> rfl
@[simp] theorem State.setIdx_cpu_alt (s : State) (i : Index) (v : Word) : (s.setIdx i v).cpu.alt = s.cpu.alt := by cases i <;> rfl
@[simp] theorem State.setIdx_cpu_sp (s : State) (i : Index) (v : Word) : (s.setIdx i v).cpu.sp = s.cpu.sp := by cases i <;> rfl
@[simp] theorem State.setIdx_cpu_pc (s : State) (i : Index) (v : Word) : (s.setIdx i v).cpu.pc = s.cpu.pc := by cases i <;> rfl
@[simp] theorem State.setIdx_cpu_xpc (s : State) (i : Index) (v : Word) : (s.setIdx i v).cpu.xpc = s.cpu.xpc := by cases i <;> rfl
@[simp] theorem State.setIdx_cpu_ip (s : State) (i : Index) (v : Word) : (s.setIdx i v).cpu.ip = s.cpu.ip := by cases i <;> rfl
@[simp] theorem State.setIdx_cpu_iir (s : State) (i : Index) (v : Word) : (s.setIdx i v).cpu.iir = s.cpu.iir := by cases i <;> rfl
@[simp] theorem State.setIdx_cpu_eir (s : State) (i : Index) (v : Word) : (s.setIdx i v).cpu.eir = s.cpu.eir := by cases i <;> rfl
@[simp] theorem State.setIdx_ix_cpu_ix (s : State) (v : Word) : (s.setIdx .ix v).cpu.ix = v := rfl
@[simp] theorem State.setIdx_ix_cpu_iy (s : State) (v : Word) : (s.setIdx .ix v).cpu.iy = s.cpu.iy := rfl
@[simp] theorem State.setIdx_iy_cpu_ix (s : State) (v : Word) : (s.setIdx .iy v).cpu.ix = s.cpu.ix := rfl
@[simp] theorem State.setIdx_iy_cpu_iy (s : State) (v : Word) : (s.setIdx .iy v).cpu.iy = v := rfl

@[simp] theorem memWrite16_cpu (a : Addr) (v : Word) (s : State) : (memWrite16 a v s).cpu = s.cpu := rfl
@[simp] theorem memWrite16_mapping (a : Addr) (v : Word) (s : State) : (memWrite16 a v s).mapping = s.mapping := rfl
@[simp] theorem memWrite16_readOnly (a : Addr) (v : Word) (s : State) : (memWrite16 a v s).readOnly = s.readOnly := rfl
@[simp] theorem memWrite16_ioTrace (a : Addr) (v : Word) (s : State) : (memWrite16 a v s).ioTrace = s.ioTrace := rfl
@[simp] theorem memWrite16_ioBug (a : Addr) (v : Word) (s : State) : (memWrite16 a v s).ioBug = s.ioBug := rfl
@[simp] theorem memWrite16_altd (a : Addr) (v : Word) (s : State) : (memWrite16 a v s).altd = s.altd := rfl
@[simp] theorem memWrite16_io (a : Addr) (v : Word) (s : State) : (memWrite16 a v s).io = s.io := rfl
@[simp] theorem memWrite16_pc0 (a : Addr) (v : Word) (s : State) : (memWrite16 a v s).pc0 = s.pc0 := rfl
@[simp] theorem memWrite16_intRequests (a : Addr) (v : Word) (s : State) : (memWrite16 a v s).intRequests = s.intRequests := rfl

@[simp] theorem writeTo_cpu (sp : Option IoSpace) (a : Addr) (v : Byte) (s : State) : (writeTo sp a v s).cpu = s.cpu := by cases sp <;> rfl
@[simp] theorem writeTo_mapping (sp : Option IoSpace) (a : Addr) (v : Byte) (s : State) : (writeTo sp a v s).mapping = s.mapping := by cases sp <;> rfl
@[simp] theorem writeTo_readOnly (sp : Option IoSpace) (a : Addr) (v : Byte) (s : State) : (writeTo sp a v s).readOnly = s.readOnly := by cases sp <;> rfl
@[simp] theorem writeTo_ioBug (sp : Option IoSpace) (a : Addr) (v : Byte) (s : State) : (writeTo sp a v s).ioBug = s.ioBug := by cases sp <;> rfl
@[simp] theorem writeTo_altd (sp : Option IoSpace) (a : Addr) (v : Byte) (s : State) : (writeTo sp a v s).altd = s.altd := by cases sp <;> rfl
@[simp] theorem writeTo_io (sp : Option IoSpace) (a : Addr) (v : Byte) (s : State) : (writeTo sp a v s).io = s.io := by cases sp <;> rfl
@[simp] theorem writeTo_pc0 (sp : Option IoSpace) (a : Addr) (v : Byte) (s : State) : (writeTo sp a v s).pc0 = s.pc0 := by cases sp <;> rfl
@[simp] theorem writeTo_intRequests (sp : Option IoSpace) (a : Addr) (v : Byte) (s : State) : (writeTo sp a v s).intRequests = s.intRequests := by cases sp <;> rfl

@[simp] theorem dstWrite_cpu (a : Addr) (v : Byte) (s : State) : (dstWrite a v s).cpu = s.cpu := by simp [dstWrite]
@[simp] theorem dstWrite_mapping (a : Addr) (v : Byte) (s : State) : (dstWrite a v s).mapping = s.mapping := by simp [dstWrite]
@[simp] theorem dstWrite_readOnly (a : Addr) (v : Byte) (s : State) : (dstWrite a v s).readOnly = s.readOnly := by simp [dstWrite]
@[simp] theorem dstWrite_ioBug (a : Addr) (v : Byte) (s : State) : (dstWrite a v s).ioBug = s.ioBug := by simp [dstWrite]
@[simp] theorem dstWrite_altd (a : Addr) (v : Byte) (s : State) : (dstWrite a v s).altd = s.altd := by simp [dstWrite]
@[simp] theorem dstWrite_io (a : Addr) (v : Byte) (s : State) : (dstWrite a v s).io = s.io := by simp [dstWrite]
@[simp] theorem dstWrite_pc0 (a : Addr) (v : Byte) (s : State) : (dstWrite a v s).pc0 = s.pc0 := by simp [dstWrite]
@[simp] theorem dstWrite_intRequests (a : Addr) (v : Byte) (s : State) : (dstWrite a v s).intRequests = s.intRequests := by simp [dstWrite]

@[simp] theorem dstWrite16_cpu (a : Addr) (v : Word) (s : State) : (dstWrite16 a v s).cpu = s.cpu := by simp [dstWrite16]
@[simp] theorem dstWrite16_mapping (a : Addr) (v : Word) (s : State) : (dstWrite16 a v s).mapping = s.mapping := by simp [dstWrite16]
@[simp] theorem dstWrite16_readOnly (a : Addr) (v : Word) (s : State) : (dstWrite16 a v s).readOnly = s.readOnly := by simp [dstWrite16]
@[simp] theorem dstWrite16_ioBug (a : Addr) (v : Word) (s : State) : (dstWrite16 a v s).ioBug = s.ioBug := by simp [dstWrite16]
@[simp] theorem dstWrite16_altd (a : Addr) (v : Word) (s : State) : (dstWrite16 a v s).altd = s.altd := by simp [dstWrite16]
@[simp] theorem dstWrite16_io (a : Addr) (v : Word) (s : State) : (dstWrite16 a v s).io = s.io := by simp [dstWrite16]
@[simp] theorem dstWrite16_pc0 (a : Addr) (v : Word) (s : State) : (dstWrite16 a v s).pc0 = s.pc0 := by simp [dstWrite16]
@[simp] theorem dstWrite16_intRequests (a : Addr) (v : Word) (s : State) : (dstWrite16 a v s).intRequests = s.intRequests := by simp [dstWrite16]

@[simp] theorem takeInterrupt_cpu (q : IntRequest) (ret : Addr) (s : State) :
    (takeInterrupt q ret s).cpu = (Config.intEntry s q ret).cpu := rfl
@[simp] theorem takeInterrupt_mem (q : IntRequest) (ret : Addr) (s : State) :
    (takeInterrupt q ret s).mem = (Config.intEntry s q ret).mem.canonical := rfl
@[simp] theorem takeInterrupt_mapping (q : IntRequest) (ret : Addr) (s : State) :
    (takeInterrupt q ret s).mapping = (Config.intEntry s q ret).mapping := rfl
@[simp] theorem takeInterrupt_readOnly (q : IntRequest) (ret : Addr) (s : State) :
    (takeInterrupt q ret s).readOnly = (Config.intEntry s q ret).readOnly := rfl
@[simp] theorem takeInterrupt_ioTrace (q : IntRequest) (ret : Addr) (s : State) :
    (takeInterrupt q ret s).ioTrace = historyAfter s.ioTrace (Config.intEntry s q ret).ioTrace := rfl
@[simp] theorem takeInterrupt_ioBug (q : IntRequest) (ret : Addr) (s : State) :
    (takeInterrupt q ret s).ioBug = none := rfl
@[simp] theorem takeInterrupt_altd (q : IntRequest) (ret : Addr) (s : State) :
    (takeInterrupt q ret s).altd = s.altd := rfl
@[simp] theorem takeInterrupt_io (q : IntRequest) (ret : Addr) (s : State) :
    (takeInterrupt q ret s).io = s.io := rfl
@[simp] theorem takeInterrupt_pc0 (q : IntRequest) (ret : Addr) (s : State) :
    (takeInterrupt q ret s).pc0 = s.pc0 := rfl
@[simp] theorem takeInterrupt_intRequests (q : IntRequest) (ret : Addr) (s : State) :
    (takeInterrupt q ret s).intRequests = (Config.intEntry s q ret).intRequests := rfl

/-! The states that `ReadsAs`, `stored`, `storedWord` name. -/

@[simp] theorem stored_cpu (sp : Option IoSpace) (a : Addr) (v : Byte) (s : State) :
    (stored sp a v s).cpu = s.cpu := by cases sp <;> rfl
@[simp] theorem stored_mapping (sp : Option IoSpace) (a : Addr) (v : Byte) (s : State) :
    (stored sp a v s).mapping = s.mapping := by cases sp <;> rfl
@[simp] theorem stored_readOnly (sp : Option IoSpace) (a : Addr) (v : Byte) (s : State) :
    (stored sp a v s).readOnly = s.readOnly := by cases sp <;> rfl
@[simp] theorem stored_ioBug (sp : Option IoSpace) (a : Addr) (v : Byte) (s : State) :
    (stored sp a v s).ioBug = s.ioBug := by cases sp <;> rfl
@[simp] theorem stored_altd (sp : Option IoSpace) (a : Addr) (v : Byte) (s : State) :
    (stored sp a v s).altd = s.altd := by cases sp <;> rfl
@[simp] theorem stored_io (sp : Option IoSpace) (a : Addr) (v : Byte) (s : State) :
    (stored sp a v s).io = s.io := by cases sp <;> rfl
@[simp] theorem stored_pc0 (sp : Option IoSpace) (a : Addr) (v : Byte) (s : State) :
    (stored sp a v s).pc0 = s.pc0 := by cases sp <;> rfl
@[simp] theorem stored_intRequests (sp : Option IoSpace) (a : Addr) (v : Byte) (s : State) :
    (stored sp a v s).intRequests = s.intRequests := by cases sp <;> rfl
@[simp] theorem storedWord_cpu (sp : Option IoSpace) (a : Addr) (v : Word) (s : State) :
    (storedWord sp a v s).cpu = s.cpu := by cases sp <;> rfl
@[simp] theorem storedWord_mapping (sp : Option IoSpace) (a : Addr) (v : Word) (s : State) :
    (storedWord sp a v s).mapping = s.mapping := by cases sp <;> rfl
@[simp] theorem storedWord_readOnly (sp : Option IoSpace) (a : Addr) (v : Word) (s : State) :
    (storedWord sp a v s).readOnly = s.readOnly := by cases sp <;> rfl
@[simp] theorem storedWord_ioBug (sp : Option IoSpace) (a : Addr) (v : Word) (s : State) :
    (storedWord sp a v s).ioBug = s.ioBug := by cases sp <;> rfl
@[simp] theorem storedWord_altd (sp : Option IoSpace) (a : Addr) (v : Word) (s : State) :
    (storedWord sp a v s).altd = s.altd := by cases sp <;> rfl
@[simp] theorem storedWord_io (sp : Option IoSpace) (a : Addr) (v : Word) (s : State) :
    (storedWord sp a v s).io = s.io := by cases sp <;> rfl
@[simp] theorem storedWord_pc0 (sp : Option IoSpace) (a : Addr) (v : Word) (s : State) :
    (storedWord sp a v s).pc0 = s.pc0 := by cases sp <;> rfl
@[simp] theorem storedWord_intRequests (sp : Option IoSpace) (a : Addr) (v : Word) (s : State) :
    (storedWord sp a v s).intRequests = s.intRequests := by cases sp <;> rfl

@[simp] theorem State.setSS_mem (s : State) (r : SS) (v : Word) : (s.setSS r v).mem = s.mem := by cases r <;> rfl
@[simp] theorem State.setSS_mapping (s : State) (r : SS) (v : Word) : (s.setSS r v).mapping = s.mapping := by cases r <;> rfl
@[simp] theorem State.setSS_readOnly (s : State) (r : SS) (v : Word) : (s.setSS r v).readOnly = s.readOnly := by cases r <;> rfl
@[simp] theorem State.setSS_ioTrace (s : State) (r : SS) (v : Word) : (s.setSS r v).ioTrace = s.ioTrace := by cases r <;> rfl
@[simp] theorem State.setSS_ioBug (s : State) (r : SS) (v : Word) : (s.setSS r v).ioBug = s.ioBug := by cases r <;> rfl
@[simp] theorem State.setSS_altd (s : State) (r : SS) (v : Word) : (s.setSS r v).altd = s.altd := by cases r <;> rfl
@[simp] theorem State.setSS_io (s : State) (r : SS) (v : Word) : (s.setSS r v).io = s.io := by cases r <;> rfl
@[simp] theorem State.setSS_pc0 (s : State) (r : SS) (v : Word) : (s.setSS r v).pc0 = s.pc0 := by cases r <;> rfl
@[simp] theorem State.setSS_intRequests (s : State) (r : SS) (v : Word) : (s.setSS r v).intRequests = s.intRequests := by cases r <;> rfl
@[simp] theorem State.setSS_cpu_ix (s : State) (r : SS) (v : Word) : (s.setSS r v).cpu.ix = s.cpu.ix := by
  cases r <;> cases h : s.altd <;> simp [State.setSS, State.dst16, State.setSp, h, Cpu.onBank]
@[simp] theorem State.setSS_cpu_iy (s : State) (r : SS) (v : Word) : (s.setSS r v).cpu.iy = s.cpu.iy := by
  cases r <;> cases h : s.altd <;> simp [State.setSS, State.dst16, State.setSp, h, Cpu.onBank]
@[simp] theorem State.setSS_cpu_pc (s : State) (r : SS) (v : Word) : (s.setSS r v).cpu.pc = s.cpu.pc := by
  cases r <;> cases h : s.altd <;> simp [State.setSS, State.dst16, State.setSp, h, Cpu.onBank]
@[simp] theorem State.setSS_cpu_xpc (s : State) (r : SS) (v : Word) : (s.setSS r v).cpu.xpc = s.cpu.xpc := by
  cases r <;> cases h : s.altd <;> simp [State.setSS, State.dst16, State.setSp, h, Cpu.onBank]
@[simp] theorem State.setSS_cpu_ip (s : State) (r : SS) (v : Word) : (s.setSS r v).cpu.ip = s.cpu.ip := by
  cases r <;> cases h : s.altd <;> simp [State.setSS, State.dst16, State.setSp, h, Cpu.onBank]
@[simp] theorem State.setSS_cpu_iir (s : State) (r : SS) (v : Word) : (s.setSS r v).cpu.iir = s.cpu.iir := by
  cases r <;> cases h : s.altd <;> simp [State.setSS, State.dst16, State.setSp, h, Cpu.onBank]
@[simp] theorem State.setSS_cpu_eir (s : State) (r : SS) (v : Word) : (s.setSS r v).cpu.eir = s.cpu.eir := by
  cases r <;> cases h : s.altd <;> simp [State.setSS, State.dst16, State.setSp, h, Cpu.onBank]

end Sys2Proof.Machine
end

