-- ==== Sys2Proof/Laws/Memory.lean ====
section
/-! SUPPORT. Memory: a read after a write, and the canonical form that every memory operation keeps. -/

namespace Sys2Proof.Machine

/-- Reading the cell just written gives the byte written. -/
theorem Memory.read_write_same (m : Memory) (c : Nat) (v : Byte) : (m.write c v).read c = some v := by
  induction m with
  | nil => simp [Memory.write, Memory.read]
  | cons x t ih =>
    obtain ⟨k, w⟩ := x
    by_cases h1 : c < k
    · simp [Memory.write, Memory.read, h1]
    · by_cases h2 : c = k
      · simp [Memory.write, Memory.read, h2]
      · simp [Memory.write, Memory.read, h1, h2, ih]

/-- A write leaves every other cell alone. -/
theorem Memory.read_write_other (m : Memory) (c b : Nat) (v : Byte) (h : b ≠ c) :
    (m.write c v).read b = m.read b := by
  induction m with
  | nil => simp [Memory.write, Memory.read, h]
  | cons x t ih =>
    obtain ⟨k, w⟩ := x
    by_cases h1 : c < k
    · simp [Memory.write, Memory.read, h1, h]
    · by_cases h2 : c = k
      · subst h2; simp [Memory.write, Memory.read, h]
      · by_cases h3 : b = k
        · simp [Memory.write, Memory.read, h1, h2, h3]
        · simp [Memory.write, Memory.read, h1, h2, h3, ih]

/-- Every cell of a memory after a write is the written one or was there before. -/
theorem Memory.mem_write (m : Memory) (c : Nat) (v : Byte) (x : Host.Cell) (h : x ∈ m.write c v) :
    x = (c, v) ∨ x ∈ m := by
  induction m with
  | nil => simpa [Memory.write] using h
  | cons y t ih =>
    obtain ⟨k, w⟩ := y
    simp only [Memory.write] at h
    split at h
    · simpa using h
    · split at h
      · rcases List.mem_cons.mp h with h | h
        · exact .inl h
        · exact .inr (List.mem_cons_of_mem _ h)
      · rcases List.mem_cons.mp h with h | h
        · exact .inr (h ▸ List.mem_cons_self)
        · exact (ih h).imp_right (List.mem_cons_of_mem _)

/-- A write keeps the canonical form. -/
theorem Memory.wf_write (m : Memory) (c : Nat) (v : Byte) (h : m.wf) : (m.write c v).wf := by
  induction m with
  | nil => simp [Memory.write]
  | cons y t ih =>
    obtain ⟨k, w⟩ := y
    replace h := List.pairwise_cons.mp h
    simp only [Memory.write]
    split
    · rename_i hck
      refine List.pairwise_cons.mpr ⟨fun x hx => ?_, List.pairwise_cons.mpr h⟩
      rcases List.mem_cons.mp hx with hx | hx
      · exact hx ▸ hck
      · exact Nat.lt_trans hck (h.1 x hx)
    · split
      · rename_i heq
        subst heq
        exact List.pairwise_cons.mpr h
      · rename_i hlt hne
        refine List.pairwise_cons.mpr ⟨fun x hx => ?_, ih h.2⟩
        rcases Memory.mem_write t c v x hx with hx | hx
        · subst hx
          exact Nat.lt_of_le_of_ne (Nat.le_of_not_lt hlt) (Ne.symm hne)
        · exact h.1 x hx

/-- After a write that the memory admits, every address that names the written cell reads the byte. -/
theorem memWrite_peek_same (a b : Addr) (v : Byte) (s : State) (hw : s.writable a = true) (h : s.cell b = s.cell a) :
    (memWrite a v s).peek b = some v := by
  show Memory.read (memWrite a v s).mem (s.cell b) = some v
  rw [memWrite_mem, if_pos hw, h]
  exact Memory.read_write_same _ _ _

/-- A write leaves every address of another cell alone. -/
theorem memWrite_peek_other (a b : Addr) (v : Byte) (s : State) (h : s.cell b ≠ s.cell a) :
    (memWrite a v s).peek b = s.peek b := by
  show Memory.read (memWrite a v s).mem (s.cell b) = s.mem.read (s.cell b)
  rw [memWrite_mem]
  split
  · exact Memory.read_write_other _ _ _ _ h
  · rfl

/-- A write that the memory does not admit changes nothing. -/
theorem memWrite_not_admitted (a : Addr) (v : Byte) (s : State) (h : s.writable a = false) : memWrite a v s = s := by
  simp [memWrite, h]

/-- Without read-only cells every write is admitted. -/
theorem State.writable_of_none (s : State) (a : Addr) (h : s.readOnly = []) : s.writable a = true := by
  simp [State.writable, h]

theorem memWrite_wf (a : Addr) (v : Byte) (s : State) (h : s.mem.wf) : (memWrite a v s).mem.wf := by
  rw [memWrite_mem]
  split
  · exact Memory.wf_write _ _ _ h
  · exact h

theorem State.load_wf (s : State) (a : Addr) (v : Byte) (h : s.mem.wf) : (s.load a v).mem.wf := Memory.wf_write _ _ _ h

theorem memWrite16_wf (a : Addr) (v : Word) (s : State) (h : s.mem.wf) : (memWrite16 a v s).mem.wf :=
  memWrite_wf _ _ _ (memWrite_wf _ _ _ h)

theorem writeTo_wf (sp : Option IoSpace) (a : Addr) (v : Byte) (s : State) (h : s.mem.wf) :
    (writeTo sp a v s).mem.wf := by
  cases sp
  · exact memWrite_wf a v s h
  · exact h

theorem dstWrite_wf (a : Addr) (v : Byte) (s : State) (h : s.mem.wf) : (dstWrite a v s).mem.wf :=
  writeTo_wf _ _ _ _ h

theorem dstWrite16_wf (a : Addr) (v : Word) (s : State) (h : s.mem.wf) : (dstWrite16 a v s).mem.wf :=
  dstWrite_wf _ _ _ (dstWrite_wf _ _ _ h)

theorem Memory.canonical_wf (m : Memory) : m.canonical.wf := by
  induction m with
  | nil => exact List.Pairwise.nil
  | cons x t ih => exact Memory.wf_write _ _ _ ih

/-- The canonical form holds the same byte in every cell. -/
theorem Memory.canonical_read (m : Memory) (c : Nat) : m.canonical.read c = m.read c := by
  induction m with
  | nil => rfl
  | cons x t ih =>
    obtain ⟨k, v⟩ := x
    by_cases h : c = k
    · subst h
      simp [Memory.canonical, Memory.read, Memory.read_write_same]
    · simp [Memory.canonical, Memory.read, Memory.read_write_other _ _ _ _ h, h, ih]

/-- A memory in canonical form is its own canonical form. -/
theorem Memory.canonical_of_wf (m : Memory) (h : m.wf) : m.canonical = m := by
  induction m with
  | nil => rfl
  | cons x t ih =>
    obtain ⟨k, v⟩ := x
    replace h := List.pairwise_cons.mp h
    rw [Memory.canonical, ih h.2]
    cases t with
    | nil => rfl
    | cons y t => exact if_pos (h.1 y List.mem_cons_self)

theorem takeInterrupt_wf (q : IntRequest) (ret : Addr) (s : State) : (takeInterrupt q ret s).mem.wf :=
  Memory.canonical_wf _

theorem placeBytes_wf (l : List Byte) (a : Addr) (s : State) (h : s.mem.wf) : (placeBytes l a s).mem.wf := by
  induction l generalizing a s with
  | nil => exact h
  | cons x t ih => exact ih _ _ (State.load_wf s a x h)

theorem reset_mem_wf : State.reset.mem.wf := List.Pairwise.nil

end Sys2Proof.Machine
end

