-- ==== Sys2Proof/Laws/Access.lean ====
section
/-! SUPPORT. What each shared access and interrupt operation can do: proofs cite these and do not unfold the
operations. -/

namespace Sys2Proof.Machine

/-- A bind answers a next state only if both parts do. -/
theorem Access.bind_next {α β : Type} {x : Access α} {k : α → State → Host.Outcome β Fault Refusal} {y : β}
    (h : x.bind k = .next y) : ∃ v t, x = .next (v, t) ∧ k v t = .next y := by
  match x, h with
  | .next (v, t), h => exact ⟨v, t, rfl, h⟩

/-- A bind faults only if one part does. -/
theorem Access.bind_fault {α β : Type} {x : Access α} {k : α → State → Host.Outcome β Fault Refusal} {f : Fault}
    (h : x.bind k = .fault f) : x = .fault f ∨ ∃ v t, x = .next (v, t) ∧ k v t = .fault f := by
  match x, h with
  | .next (v, t), h => exact .inr ⟨v, t, rfl, h⟩
  | .fault g, h => exact .inl (by simpa [Access.bind] using h)

/-- A bind refuses only if one part does. -/
theorem Access.bind_refused {α β : Type} {x : Access α} {k : α → State → Host.Outcome β Fault Refusal} {r : Refusal}
    (h : x.bind k = .refused r) : x = .refused r ∨ ∃ v t, x = .next (v, t) ∧ k v t = .refused r := by
  match x, h with
  | .next (v, t), h => exact .inr ⟨v, t, rfl, h⟩
  | .refused g, h => exact .inl (by simpa [Access.bind] using h)

theorem onNext_next {x : Out} {k : State → State} {t : State} (h : onNext x k = .next t) :
    ∃ u, x = .next u ∧ t = k u := by
  cases x with
  | next u => exact ⟨u, rfl, (Host.Outcome.next.inj h).symm⟩
  | fault f => exact absurd h (by simp [onNext])
  | refused r => exact absurd h (by simp [onNext])

theorem onNext_fault {x : Out} {k : State → State} {f : Fault} (h : onNext x k = .fault f) : x = .fault f := by
  cases x <;> simp_all [onNext]

theorem onNext_refused {x : Out} {k : State → State} {r : Refusal} (h : onNext x k = .refused r) :
    x = .refused r := by
  cases x <;> simp_all [onNext]

/-- A read answers exactly what `ReadsAs` says. -/
theorem readFrom_next_iff (sp : Option IoSpace) (a : Addr) (v : Byte) (s t : State) :
    readFrom sp a s = .next (v, t) ↔ ReadsAs sp a v s t := by
  cases sp with
  | none =>
    simp only [readFrom, memRead, ReadsAs]
    cases h : s.peek a with
    | none => simp
    | some w => simp [eq_comm]
  | some p =>
    simp only [readFrom, ioRead, ioEvent, ReadsAs]
    constructor
    · intro h
      obtain ⟨h1, h2⟩ := Prod.mk.inj (Host.Outcome.next.inj h)
      exact ⟨h1.symm, by rw [← h2, h1]⟩
    · rintro ⟨rfl, rfl⟩
      rfl

/-- Reading a word answers exactly what `ReadsWordAs` says, when the space does not change between the bytes. -/
theorem read16_next_iff (sp : Option IoSpace) (rd : Addr → State → Access Byte) (s : State)
    (hrd : ∀ b u, u.io = s.io → rd b u = readFrom sp b u) (a : Addr) (w : Word) (t : State) :
    read16 rd a s = .next (w, t) ↔ ReadsWordAs sp a w s t := by
  have keep : ∀ {b v u}, ReadsAs sp b v s u → u.io = s.io := by
    intro b v u h
    cases sp with
    | none => exact h.2 ▸ rfl
    | some p => rw [h.2]
  constructor
  · intro h
    obtain ⟨l, u, h1, h2⟩ := Access.bind_next h
    obtain ⟨hb, x, h3, h4⟩ := Access.bind_next h2
    rw [hrd a s rfl, readFrom_next_iff] at h1
    rw [hrd _ u (keep h1), readFrom_next_iff] at h3
    obtain ⟨e1, e2⟩ := Prod.mk.inj (Host.Outcome.next.inj h4)
    exact ⟨l, hb, u, h1, e2 ▸ h3, e1.symm⟩
  · rintro ⟨l, hb, u, h1, h3, rfl⟩
    have e1 : rd a s = .next (l, u) := by rw [hrd a s rfl, readFrom_next_iff]; exact h1
    have e2 : rd (a + 1) u = .next (hb, t) := by rw [hrd _ u (keep h1), readFrom_next_iff]; exact h3
    simp only [read16, e1, Access.bind, e2, word]

theorem srcRead16_next_iff (a : Addr) (w : Word) (s t : State) :
    read16 srcRead a s = .next (w, t) ↔ ReadsWordAs s.io a w s t :=
  read16_next_iff s.io srcRead s (fun b u h => by rw [srcRead, h]) a w t

theorem memRead16_next_iff (a : Addr) (w : Word) (s t : State) :
    read16 memRead a s = .next (w, t) ↔ ReadsWordAs none a w s t :=
  read16_next_iff none memRead s (fun _ _ _ => rfl) a w t

/-- A read changes the I/O history at most. -/
theorem ReadsAs.state {sp : Option IoSpace} {a : Addr} {v : Byte} {s t : State} (h : ReadsAs sp a v s t) :
    ∃ es, t = { s with ioTrace := s.ioTrace ++ es } := by
  cases sp with
  | none => exact ⟨[], by rw [h.2, List.append_nil]⟩
  | some p => exact ⟨_, h.2⟩

theorem ReadsWordAs.state {sp : Option IoSpace} {a : Addr} {w : Word} {s t : State} (h : ReadsWordAs sp a w s t) :
    ∃ es, t = { s with ioTrace := s.ioTrace ++ es } := by
  obtain ⟨l, hb, u, h1, h2, -⟩ := h
  obtain ⟨e1, rfl⟩ := h1.state
  obtain ⟨e2, rfl⟩ := h2.state
  exact ⟨e1 ++ e2, by simp⟩

/-- A fault of a read: the space is memory and the cell holds no value. -/
theorem readFrom_fault {sp : Option IoSpace} {a : Addr} {s : State} {f : Fault} (h : readFrom sp a s = .fault f) :
    sp = none ∧ f = .unwrittenCell a ∧ s.peek a = none := by
  cases sp with
  | none =>
    simp only [readFrom, memRead] at h
    cases hp : s.peek a with
    | none => rw [hp] at h; exact ⟨rfl, (Host.Outcome.fault.inj h).symm, rfl⟩
    | some w => rw [hp] at h; cases h
  | some p => cases h

theorem readFrom_not_refused {sp : Option IoSpace} {a : Addr} {s : State} {r : Refusal} :
    readFrom sp a s ≠ .refused r := by
  cases sp with
  | none => simp only [readFrom, memRead]; cases s.peek a <;> simp
  | some p => simp [readFrom, ioRead]

/-- A write through an operation is the state `stored` names. -/
theorem writeTo_eq_stored (sp : Option IoSpace) (a : Addr) (v : Byte) (s : State) :
    writeTo sp a v s = stored sp a v s := by
  cases sp <;> rfl

/-- What the interrupt boundary can do: nothing, use up one answer of `IntRequest`, or take an interrupt. -/
theorem interruptBoundary_cases (priv : Bool) (s : State) :
    interruptBoundary priv s = s ∨
    (∃ later, interruptBoundary priv s = { s with intRequests := later }) ∨
    (∃ q later, s.priority < q.priority.value ∧
      interruptBoundary priv s = takeInterrupt q s.cpu.pc { s with intRequests := later }) := by
  cases priv with
  | true => exact .inl rfl
  | false =>
    cases hr : s.intRequests with
    | nil => exact .inl (by simp [interruptBoundary, hr])
    | cons pending later =>
      simp only [interruptBoundary, hr]
      cases pickRequest pending with
      | none => exact .inr (.inl ⟨later, rfl⟩)
      | some q =>
        by_cases hq : s.priority < q.priority.value
        · exact .inr (.inr ⟨q, later, hq, by simp [hq]⟩)
        · exact .inr (.inl ⟨later, by simp [hq]⟩)

/-- The events that had happened before an interrupt entry stay. -/
theorem historyAfter_extends (old new : List IoEvent) : ∃ es, historyAfter old new = old ++ es := ⟨_, rfl⟩

/-- An entry that adds events to the history adds exactly those. -/
theorem historyAfter_of_extends (old es : List IoEvent) : historyAfter old (old ++ es) = old ++ es := by
  simp [historyAfter]

/-- Without interrupt requests to come the boundary does nothing. -/
theorem interruptBoundary_none (priv : Bool) (s : State) (h : s.intRequests = []) : interruptBoundary priv s = s := by
  cases priv <;> simp [interruptBoundary, h]

end Sys2Proof.Machine
end

