-- ==== Sys2Proof/Laws/Flags.lean ====
section
/-! SUPPORT. What the arithmetic primitives of `Machine/Flags.lean` answer, said once on natural numbers and integers:
results modulo the width, carries as exact sums out of range, overflows as exact signed results out of range. -/

namespace Sys2Proof.Machine

/-- The sign bit of a byte, as a bound. -/
theorem msb8 (x : Byte) : x.msb = decide (128 ≤ x.toNat) := by simp [BitVec.msb_eq_decide]

/-- The sign bit of a word, as a bound. -/
theorem msb16 (x : Word) : x.msb = decide (32768 ≤ x.toNat) := by simp [BitVec.msb_eq_decide]

/-- The signed value of a byte. -/
theorem toInt8 (x : Byte) : x.toInt = if 128 ≤ x.toNat then (x.toNat : Int) - 256 else x.toNat := by
  rw [BitVec.toInt_eq_toNat_cond]
  split <;> split <;> omega

/-- The signed value of a word. -/
theorem toInt16 (x : Word) : x.toInt = if 32768 ≤ x.toNat then (x.toNat : Int) - 65536 else x.toNat := by
  rw [BitVec.toInt_eq_toNat_cond]
  split <;> split <;> omega

theorem lo_word (m n : Byte) : lo (word m n) = n := by
  apply BitVec.eq_of_getLsbD_eq
  intro i hi
  rw [lo, word, BitVec.getLsbD_extractLsb', BitVec.getLsbD_append]
  simp [hi]

theorem hi_word (m n : Byte) : hi (word m n) = m := by
  apply BitVec.eq_of_getLsbD_eq
  intro i h
  rw [hi, word, BitVec.getLsbD_extractLsb', BitVec.getLsbD_append]
  simp [h]

/-- The result of `add8` is the sum modulo 256. -/
theorem add8_result (a v : Byte) (c : Bool) : (add8 a v c).1 = BitVec.ofNat 8 (a.toNat + v.toNat + c.toNat) := by
  apply BitVec.eq_of_toNat_eq
  cases c <;> simp [add8]

/-- The carry of `add8` says that the exact unsigned sum leaves 0 to 255. -/
theorem add8_carry (a v : Byte) (c : Bool) :
    (add8 a v c).2.c = some (decide (256 ≤ a.toNat + v.toNat + c.toNat)) := by
  have ha := a.isLt
  have hv := v.isLt
  have hc : c.toNat ≤ 1 := by cases c <;> decide
  simp only [add8, Option.some.injEq]
  rw [BitVec.msb_eq_decide, decide_eq_decide]
  simp
  omega

/-- The overflow of `add8` says that the exact signed sum leaves -128 to 127. -/
theorem add8_overflow (a v : Byte) (c : Bool) :
    (add8 a v c).2.lv =
      some (decide (a.toInt + v.toInt + c.toNat < -128 ∨ 127 < a.toInt + v.toInt + c.toNat)) := by
  have ha := a.isLt
  have hv := v.isLt
  have hc : c.toNat ≤ 1 := by cases c <;> decide
  have e : (add8 a v c).2.lv = some (a.msb == v.msb && (add8 a v c).1.msb != a.msb) := rfl
  have hr : (add8 a v c).1.toNat = (a.toNat + v.toNat + c.toNat) % 256 := by simp [add8_result]
  rw [e, msb8, msb8, msb8, toInt8, toInt8, hr, Option.some.injEq, Bool.eq_iff_iff]
  simp only [Bool.and_eq_true, beq_iff_eq, bne_iff_ne, decide_eq_true_eq, ne_eq, decide_eq_decide]
  split <;> split <;> omega

/-- The result of `adc16` is the sum modulo 65536. -/
theorem adc16_result (a v : Word) (c : Bool) : (adc16 a v c).1 = BitVec.ofNat 16 (a.toNat + v.toNat + c.toNat) := by
  apply BitVec.eq_of_toNat_eq
  cases c <;> simp [adc16]

/-- The carry of `adc16` says that the exact unsigned sum leaves 0 to 65535. -/
theorem adc16_carry (a v : Word) (c : Bool) :
    (adc16 a v c).2.c = some (decide (65536 ≤ a.toNat + v.toNat + c.toNat)) := by
  have ha := a.isLt
  have hv := v.isLt
  have hc : c.toNat ≤ 1 := by cases c <;> decide
  simp only [adc16, Option.some.injEq]
  rw [BitVec.msb_eq_decide, decide_eq_decide]
  simp
  omega

/-- The overflow of `adc16` says that the exact signed sum leaves -32768 to 32767. -/
theorem adc16_overflow (a v : Word) (c : Bool) :
    (adc16 a v c).2.lv =
      some (decide (a.toInt + v.toInt + c.toNat < -32768 ∨ 32767 < a.toInt + v.toInt + c.toNat)) := by
  have ha := a.isLt
  have hv := v.isLt
  have hc : c.toNat ≤ 1 := by cases c <;> decide
  have e : (adc16 a v c).2.lv = some (a.msb == v.msb && (adc16 a v c).1.msb != a.msb) := rfl
  have hr : (adc16 a v c).1.toNat = (a.toNat + v.toNat + c.toNat) % 65536 := by simp [adc16_result]
  rw [e, msb16, msb16, msb16, toInt16, toInt16, hr, Option.some.injEq, Bool.eq_iff_iff]
  simp only [Bool.and_eq_true, beq_iff_eq, bne_iff_ne, decide_eq_true_eq, ne_eq, decide_eq_decide]
  split <;> split <;> omega

/-- The result of `add16c` is the sum modulo 65536. -/
theorem add16c_result (a v : Word) : (add16c a v).1 = BitVec.ofNat 16 (a.toNat + v.toNat) := by
  apply BitVec.eq_of_toNat_eq
  simp [add16c]

/-- `add16c` writes the carry alone: the exact unsigned sum leaves 0 to 65535. -/
theorem add16c_flags (a v : Word) : (add16c a v).2 = { c := some (decide (65536 ≤ a.toNat + v.toNat)) } := by
  have ha := a.isLt
  have hv := v.isLt
  simp only [add16c, FlagWrite.mk.injEq, Option.some.injEq, true_and]
  rw [BitVec.msb_eq_decide, decide_eq_decide]
  simp
  omega

/-- The result of `sub8`, which sets S and Z, is the difference modulo 256. -/
theorem sub8_result (a v : Byte) : (sub8 a v).1 = a - v := by
  apply BitVec.eq_of_toNat_eq
  simp [sub8, BitVec.toNat_sub]
  omega

/-- The borrow of `sub8` says that `a` is less than `v` as an unsigned number. -/
theorem sub8_borrow (a v : Byte) : (sub8 a v).2.c = some (decide (a.toNat < v.toNat)) := by
  have ha := a.isLt
  have hv := v.isLt
  simp only [sub8, Option.some.injEq]
  rw [BitVec.msb_eq_decide, decide_eq_decide]
  simp [BitVec.toNat_sub]
  omega

/-- The overflow of `sub8` says that the exact signed difference leaves -128 to 127. -/
theorem sub8_overflow (a v : Byte) :
    (sub8 a v).2.lv = some (decide (a.toInt - v.toInt < -128 ∨ 127 < a.toInt - v.toInt)) := by
  have ha := a.isLt
  have hv := v.isLt
  have e : (sub8 a v).2.lv = some (a.msb != v.msb && (sub8 a v).1.msb != a.msb) := rfl
  have hr : (sub8 a v).1.toNat = (a.toNat + 256 - v.toNat) % 256 := by rw [sub8_result, BitVec.toNat_sub]; omega
  rw [e, msb8, msb8, msb8, toInt8, toInt8, hr, Option.some.injEq, Bool.eq_iff_iff]
  simp only [Bool.and_eq_true, bne_iff_ne, decide_eq_true_eq, ne_eq, decide_eq_decide]
  split <;> split <;> omega

/-- L after an 8-bit AND says that the result is 16 or more. -/
theorem lOf8_iff (r : Byte) : lOf8 r = decide (16 ≤ r.toNat) := by
  have := r.isLt
  rw [Bool.eq_iff_iff]
  simp only [lOf8, bne_iff_ne, decide_eq_true_eq, ne_eq, ← BitVec.toNat_inj]
  simp [BitVec.extractLsb'_toNat, Nat.shiftRight_eq_div_pow]
  omega

/-- L after a 16-bit AND says that the result is 1000h or more. -/
theorem lOf16_iff (r : Word) : lOf16 r = decide (0x1000 ≤ r.toNat) := by
  have := r.isLt
  rw [Bool.eq_iff_iff]
  simp only [lOf16, bne_iff_ne, decide_eq_true_eq, ne_eq, ← BitVec.toNat_inj]
  simp [BitVec.extractLsb'_toNat, Nat.shiftRight_eq_div_pow]
  omega

/-- The carry of `ADD SP,d` says that the unsigned sum of SP and the extended displacement leaves 0 to 65535. -/
theorem addSpCarry_iff (sp : Word) (d : Byte) :
    addSpCarry sp d = decide (65536 ≤ sp.toNat + (d.signExtend 16).toNat) := by
  have ha := sp.isLt
  have hv := (d.signExtend 16).isLt
  rw [addSpCarry, sext16, BitVec.msb_eq_decide, decide_eq_decide]
  simp
  omega

/-- Adding an extended displacement adds its signed value modulo 65536. -/
theorem add_sext16 (w : Word) (d : Byte) : w + sext16 d = BitVec.ofInt 16 (w.toNat + d.toInt) := by
  apply BitVec.eq_of_toInt_eq
  simp [sext16, BitVec.toInt_signExtend_of_le, BitVec.toInt_add, BitVec.toInt_eq_toNat_bmod w]

end Sys2Proof.Machine
end

