-- ==== Sys2Proof/Laws/Operands.lean ====
section
/-! SUPPORT. What each operand form, and each shared operation of a family that accesses memory, can do: its next state,
its fault, its refusal. Proofs cite these and do not unfold the operations. -/

namespace Sys2Proof.Machine

/-- A read through `SrcRead` answers exactly what `ReadsAs` says. -/
theorem srcRead_next_iff (a : Addr) (v : Byte) (s t : State) :
    srcRead a s = .next (v, t) ↔ ReadsAs s.io a v s t := readFrom_next_iff _ _ _ _ _

/-- A read of one of the twelve answers iff it is not refused and its space answers. -/
theorem bugRead_next_iff (a : Addr) (v : Byte) (s t : State) :
    bugRead a s = .next (v, t) ↔ bugRefused s = false ∧ ReadsAs (bugSpace s) a v s t := by
  rw [bugRead, ← readFrom_next_iff]
  cases bugRefused s <;> simp

/-- A write of one of the twelve completes iff it is not refused. -/
theorem bugWrite_next_iff (a : Addr) (v : Byte) (s t : State) :
    bugWrite a v s = .next t ↔ bugRefused s = false ∧ t = stored (bugSpace s) a v s := by
  rw [bugWrite, ← writeTo_eq_stored]
  cases bugRefused s <;> simp [eq_comm]

/-- A read keeps the registers and the instruction context. -/
theorem ReadsAs.keeps {sp : Option IoSpace} {a : Addr} {v : Byte} {s t : State} (h : ReadsAs sp a v s t) :
    t.cpu = s.cpu ∧ t.mem = s.mem ∧ t.mapping = s.mapping ∧ t.io = s.io ∧ t.ioBug = s.ioBug ∧ t.altd = s.altd ∧
    t.pc0 = s.pc0 ∧ t.intRequests = s.intRequests ∧ t.readOnly = s.readOnly := by
  obtain ⟨es, rfl⟩ := h.state
  exact ⟨rfl, rfl, rfl, rfl, rfl, rfl, rfl, rfl, rfl⟩

/-- Reading a word keeps the registers and the instruction context. -/
theorem ReadsWordAs.keeps {sp : Option IoSpace} {a : Addr} {w : Word} {s t : State} (h : ReadsWordAs sp a w s t) :
    t.cpu = s.cpu ∧ t.mem = s.mem ∧ t.mapping = s.mapping ∧ t.io = s.io ∧ t.ioBug = s.ioBug ∧ t.altd = s.altd ∧
    t.pc0 = s.pc0 ∧ t.intRequests = s.intRequests ∧ t.readOnly = s.readOnly := by
  obtain ⟨es, rfl⟩ := h.state
  exact ⟨rfl, rfl, rfl, rfl, rfl, rfl, rfl, rfl, rfl⟩

/-- A store keeps the registers and the instruction context. -/
theorem stored_keeps (sp : Option IoSpace) (a : Addr) (v : Byte) (s : State) :
    (stored sp a v s).cpu = s.cpu ∧ (stored sp a v s).mapping = s.mapping ∧ (stored sp a v s).io = s.io ∧
    (stored sp a v s).readOnly = s.readOnly ∧ (stored sp a v s).ioBug = s.ioBug ∧
    (stored sp a v s).altd = s.altd ∧ (stored sp a v s).pc0 = s.pc0 ∧
    (stored sp a v s).intRequests = s.intRequests := by
  cases sp <;> exact ⟨rfl, rfl, rfl, rfl, rfl, rfl, rfl, rfl⟩

theorem dstWrite_eq_stored (a : Addr) (v : Byte) (s : State) : dstWrite a v s = stored s.io a v s :=
  writeTo_eq_stored _ _ _ _

theorem dstWrite16_eq_storedWord (a : Addr) (v : Word) (s : State) : dstWrite16 a v s = storedWord s.io a v s := by
  simp only [dstWrite16, dstWrite_eq_stored, (stored_keeps _ _ _ _).2.2.1]
  rfl

/-! ## Next states of the operand forms -/

theorem onAt_next_iff (a : Addr) (k : Byte → State → State) (s t : State) :
    onAt a k s = .next t ↔ ∃ v u, ReadsAs s.io a v s u ∧ t = k v u := by
  constructor
  · intro h
    obtain ⟨v, u, h1, h2⟩ := Access.bind_next h
    exact ⟨v, u, (srcRead_next_iff _ _ _ _).mp h1, (Host.Outcome.next.inj h2).symm⟩
  · rintro ⟨v, u, h, rfl⟩
    simp only [onAt, (srcRead_next_iff _ _ _ _).mpr h, Access.bind]

theorem onAtIdx_next_iff (i : Index) (d : Byte) (k : Byte → State → State) (s t : State) :
    onAtIdx i d k s = .next t ↔ ∃ v u, ReadsAs s.io (eaIdx i d s) v s u ∧ t = k v u := onAt_next_iff _ _ _ _

theorem onAtHLBug_next_iff (k : Byte → State → State) (s t : State) :
    onAtHLBug k s = .next t ↔
      bugRefused s = false ∧ ∃ v u, ReadsAs (bugSpace s) (eaHL s) v s u ∧ t = k v u := by
  constructor
  · intro h
    obtain ⟨v, u, h1, h2⟩ := Access.bind_next h
    obtain ⟨hr, h3⟩ := (bugRead_next_iff _ _ _ _).mp h1
    exact ⟨hr, v, u, h3, (Host.Outcome.next.inj h2).symm⟩
  · rintro ⟨hr, v, u, h, rfl⟩
    simp only [onAtHLBug, (bugRead_next_iff _ _ _ _).mpr ⟨hr, h⟩, Access.bind]

theorem onAt16_next_iff (a : Addr) (k : Word → State → State) (s t : State) :
    onAt16 a k s = .next t ↔ ∃ w u, ReadsWordAs s.io a w s u ∧ t = k w u := by
  constructor
  · intro h
    obtain ⟨w, u, h1, h2⟩ := Access.bind_next h
    exact ⟨w, u, (srcRead16_next_iff _ _ _ _).mp h1, (Host.Outcome.next.inj h2).symm⟩
  · rintro ⟨w, u, h, rfl⟩
    simp only [onAt16, (srcRead16_next_iff _ _ _ _).mpr h, Access.bind]

theorem onAtSP16_next_iff (n : Byte) (k : Word → State → State) (s t : State) :
    onAtSP16 n k s = .next t ↔ ∃ w u, ReadsWordAs none (eaSP n s) w s u ∧ t = k w u := by
  constructor
  · intro h
    obtain ⟨w, u, h1, h2⟩ := Access.bind_next h
    exact ⟨w, u, (memRead16_next_iff _ _ _ _).mp h1, (Host.Outcome.next.inj h2).symm⟩
  · rintro ⟨w, u, h, rfl⟩
    simp only [onAtSP16, (memRead16_next_iff _ _ _ _).mpr h, Access.bind]

/-! ## Next states of the read-and-write operations -/

theorem stepAtIdx_next_iff (i : Index) (d : Byte) (f : Byte → Byte × FlagWrite) (s t : State) :
    stepAtIdx i d f s = .next t ↔
      ∃ v u, ReadsAs s.io (eaIdx i d s) v s u ∧
        t = (stored s.io (eaIdx i d s) (f v).1 u).setFlags (f v).2 := by
  constructor
  · intro h
    obtain ⟨v, u, h1, h2⟩ := Access.bind_next h
    have hr := (srcRead_next_iff _ _ _ _).mp h1
    refine ⟨v, u, hr, ?_⟩
    rw [← hr.keeps.2.2.2.1, ← dstWrite_eq_stored]
    exact (Host.Outcome.next.inj h2).symm
  · rintro ⟨v, u, h, rfl⟩
    simp only [stepAtIdx, (srcRead_next_iff _ _ _ _).mpr h, Access.bind, dstWrite_eq_stored, h.keeps.2.2.2.1]

theorem stepAtHL_next_iff (f : Byte → Byte × FlagWrite) (s t : State) :
    stepAtHL f s = .next t ↔
      bugRefused s = false ∧ ∃ v u, ReadsAs (bugSpace s) (eaHL s) v s u ∧
        t = (stored (bugSpace s) (eaHL s) (f v).1 u).setFlags (f v).2 := by
  have same : ∀ {v u}, ReadsAs (bugSpace s) (eaHL s) v s u → bugRefused u = bugRefused s ∧ bugSpace u = bugSpace s := by
    intro v u h
    simp only [bugRefused, bugSpace, h.keeps.2.2.2.1, h.keeps.2.2.2.2.1, h.keeps.2.2.2.2.2.1, and_self]
  constructor
  · intro h
    obtain ⟨v, u, h1, h2⟩ := Access.bind_next h
    obtain ⟨hr, h3⟩ := (bugRead_next_iff _ _ _ _).mp h1
    obtain ⟨x, h4, rfl⟩ := onNext_next h2
    obtain ⟨-, rfl⟩ := (bugWrite_next_iff _ _ _ _).mp h4
    exact ⟨hr, v, u, h3, by rw [(same h3).2]⟩
  · rintro ⟨hr, v, u, h, rfl⟩
    simp only [stepAtHL, (bugRead_next_iff _ _ _ _).mpr ⟨hr, h⟩, Access.bind]
    rw [(bugWrite_next_iff _ _ _ _).mpr ⟨(same h).1.trans hr, rfl⟩, (same h).2]
    rfl

theorem exAtSP_next_iff (v : Word) (k : Word → State → State) (s t : State) :
    exAtSP v k s = .next t ↔
      ∃ w u, ReadsWordAs none s.cpu.sp w s u ∧ t = k w (storedWord none s.cpu.sp v u) := by
  constructor
  · intro h
    obtain ⟨w, u, h1, h2⟩ := Access.bind_next h
    exact ⟨w, u, (memRead16_next_iff _ _ _ _).mp h1, (Host.Outcome.next.inj h2).symm⟩
  · rintro ⟨w, u, h, rfl⟩
    simp only [exAtSP, (memRead16_next_iff _ _ _ _).mpr h, Access.bind]
    rfl

/-- One move reads memory at HL and stores at DE; then it writes the main BC, DE, HL and L/V alone. -/
theorem moveOne_next {dir : Word} {s t : State} (h : moveOne dir s = .next t) :
    ∃ v, s.peek (s.pair .hl) = some v ∧ t = (stored s.io (s.pair .de) v s).onMain fun k =>
      let k' := ((k.set16 .bc (s.pair .bc - 1)).set16 .de (s.pair .de + dir)).set16 .hl (s.pair .hl + dir)
      { k' with f := k'.f.write (blockFlags (s.pair .bc - 1)) } := by
  obtain ⟨v, u, h1, h2⟩ := Access.bind_next h
  have hr : ReadsAs none (s.pair .hl) v s u := (readFrom_next_iff none _ _ _ _).mp h1
  obtain ⟨hp, rfl⟩ := hr
  exact ⟨v, hp, by rw [← dstWrite_eq_stored]; exact (Host.Outcome.next.inj h2).symm⟩

/-- A repeating move is one move, and goes back to `pc0` unless BC is 0 now. -/
theorem blockRepeat_next {dir : Word} {s t : State} (h : blockRepeat dir s = .next t) :
    ∃ u, moveOne dir s = .next u ∧ t = if u.pair .bc != 0 then u.setPc u.pc0 else u := onNext_next h

/-! ## Faults and refusals -/

theorem srcRead_fault {a : Addr} {s : State} {f : Fault} (h : srcRead a s = .fault f) :
    f = .unwrittenCell a ∧ s.peek a = none := (readFrom_fault h).2

theorem bugRead_fault {a : Addr} {s : State} {f : Fault} (h : bugRead a s = .fault f) :
    f = .unwrittenCell a ∧ s.peek a = none := by
  rw [bugRead] at h
  split at h
  · cases h
  · exact (readFrom_fault h).2

theorem bugRead_refused {a : Addr} {s : State} {r : Refusal} (h : bugRead a s = .refused r) :
    r = .altdAfterIo ∧ bugRefused s = true := by
  rw [bugRead] at h
  split at h
  · exact ⟨(Host.Outcome.refused.inj h).symm, by assumption⟩
  · exact absurd h readFrom_not_refused

theorem bugWrite_not_fault {a : Addr} {v : Byte} {s : State} {f : Fault} : bugWrite a v s ≠ .fault f := by
  rw [bugWrite]
  split <;> simp

theorem bugWrite_refused {a : Addr} {v : Byte} {s : State} {r : Refusal} (h : bugWrite a v s = .refused r) :
    r = .altdAfterIo ∧ bugRefused s = true := by
  rw [bugWrite] at h
  split at h
  · exact ⟨(Host.Outcome.refused.inj h).symm, by assumption⟩
  · cases h

/-- Reading a word faults at the first of its bytes whose memory cell holds no value. -/
theorem read16_fault {sp : Option IoSpace} {rd : Addr → State → Access Byte} {a : Addr} {s : State} {f : Fault}
    (hrd : ∀ b u, u.io = s.io → rd b u = readFrom sp b u) (h : read16 rd a s = .fault f) :
    ∃ b, f = .unwrittenCell b ∧ s.peek b = none := by
  rcases Access.bind_fault h with h | ⟨l, u, h1, h2⟩
  · rw [hrd a s rfl] at h
    exact ⟨a, (readFrom_fault h).2⟩
  · rw [hrd a s rfl, readFrom_next_iff] at h1
    rcases Access.bind_fault h2 with h | ⟨_, _, _, h4⟩
    · rw [hrd _ u h1.keeps.2.2.2.1] at h
      obtain ⟨rfl, rfl, hp⟩ := readFrom_fault h
      exact ⟨_, rfl, h1.2 ▸ hp⟩
    · cases h4

theorem read16_not_refused {sp : Option IoSpace} {rd : Addr → State → Access Byte} {a : Addr} {s : State} {r : Refusal}
    (hrd : ∀ b u, u.io = s.io → rd b u = readFrom sp b u) : read16 rd a s ≠ .refused r := by
  intro h
  rcases Access.bind_refused h with h | ⟨l, u, h1, h2⟩
  · rw [hrd a s rfl] at h
    exact readFrom_not_refused h
  · rw [hrd a s rfl, readFrom_next_iff] at h1
    rcases Access.bind_refused h2 with h | ⟨_, _, _, h4⟩
    · rw [hrd _ u h1.keeps.2.2.2.1] at h
      exact readFrom_not_refused h
    · cases h4

end Sys2Proof.Machine
end

