-- ==== Sys2Proof/Laws/PerInstr.lean ====
section
/-! SUPPORT. The family RoundTrip: each row of the opcode table reads back from the bytes the encoder writes for it,
with every operand at every value, whatever bytes follow. -/

namespace Sys2Proof.Laws

/-- A word is put together again from its halves. -/
theorem word_hi_lo (v : Word) : Machine.word (Machine.hi v) (Machine.lo v) = v := by
  simp only [Machine.word, Machine.hi, Machine.lo]
  ext i hi
  simp only [BitVec.getElem_append, BitVec.getElem_extractLsb']
  split
  · rw [Nat.zero_add, BitVec.getLsbD_eq_getElem]
  · rw [← BitVec.getLsbD_eq_getElem]
    congr 1
    omega

/-- The bytes the encoder writes for `i` are read as `i`, and what follows them is left. -/
def RoundTrip.Statement (i : Instr) : Prop :=
  ∀ rest : List Byte, readRow (encode i ++ rest) = .row i rest

theorem RoundTrip.adcAAtHL : RoundTrip.Statement .adcAAtHL := fun _ => rfl
theorem RoundTrip.adcAAtIXd (d : Byte) : RoundTrip.Statement (.adcAAtIXd d) := fun _ => rfl
theorem RoundTrip.adcAAtIYd (d : Byte) : RoundTrip.Statement (.adcAAtIYd d) := fun _ => rfl
theorem RoundTrip.adcAn (n : Byte) : RoundTrip.Statement (.adcAn n) := fun _ => rfl
theorem RoundTrip.adcAB : RoundTrip.Statement .adcAB := fun _ => rfl
theorem RoundTrip.adcAC : RoundTrip.Statement .adcAC := fun _ => rfl
theorem RoundTrip.adcAD : RoundTrip.Statement .adcAD := fun _ => rfl
theorem RoundTrip.adcAE : RoundTrip.Statement .adcAE := fun _ => rfl
theorem RoundTrip.adcAH : RoundTrip.Statement .adcAH := fun _ => rfl
theorem RoundTrip.adcAL : RoundTrip.Statement .adcAL := fun _ => rfl
theorem RoundTrip.adcAA : RoundTrip.Statement .adcAA := fun _ => rfl
theorem RoundTrip.adcHLBC : RoundTrip.Statement .adcHLBC := fun _ => rfl
theorem RoundTrip.adcHLDE : RoundTrip.Statement .adcHLDE := fun _ => rfl
theorem RoundTrip.adcHLHL : RoundTrip.Statement .adcHLHL := fun _ => rfl
theorem RoundTrip.adcHLSP : RoundTrip.Statement .adcHLSP := fun _ => rfl
theorem RoundTrip.addAAtHL : RoundTrip.Statement .addAAtHL := fun _ => rfl
theorem RoundTrip.addAAtIXd (d : Byte) : RoundTrip.Statement (.addAAtIXd d) := fun _ => rfl
theorem RoundTrip.addAAtIYd (d : Byte) : RoundTrip.Statement (.addAAtIYd d) := fun _ => rfl
theorem RoundTrip.addAn (n : Byte) : RoundTrip.Statement (.addAn n) := fun _ => rfl
theorem RoundTrip.addAB : RoundTrip.Statement .addAB := fun _ => rfl
theorem RoundTrip.addAC : RoundTrip.Statement .addAC := fun _ => rfl
theorem RoundTrip.addAD : RoundTrip.Statement .addAD := fun _ => rfl
theorem RoundTrip.addAE : RoundTrip.Statement .addAE := fun _ => rfl
theorem RoundTrip.addAH : RoundTrip.Statement .addAH := fun _ => rfl
theorem RoundTrip.addAL : RoundTrip.Statement .addAL := fun _ => rfl
theorem RoundTrip.addAA : RoundTrip.Statement .addAA := fun _ => rfl
theorem RoundTrip.addHLBC : RoundTrip.Statement .addHLBC := fun _ => rfl
theorem RoundTrip.addHLDE : RoundTrip.Statement .addHLDE := fun _ => rfl
theorem RoundTrip.addHLHL : RoundTrip.Statement .addHLHL := fun _ => rfl
theorem RoundTrip.addHLSP : RoundTrip.Statement .addHLSP := fun _ => rfl
theorem RoundTrip.addIXBC : RoundTrip.Statement .addIXBC := fun _ => rfl
theorem RoundTrip.addIXDE : RoundTrip.Statement .addIXDE := fun _ => rfl
theorem RoundTrip.addIXIX : RoundTrip.Statement .addIXIX := fun _ => rfl
theorem RoundTrip.addIXSP : RoundTrip.Statement .addIXSP := fun _ => rfl
theorem RoundTrip.addIYBC : RoundTrip.Statement .addIYBC := fun _ => rfl
theorem RoundTrip.addIYDE : RoundTrip.Statement .addIYDE := fun _ => rfl
theorem RoundTrip.addIYIY : RoundTrip.Statement .addIYIY := fun _ => rfl
theorem RoundTrip.addIYSP : RoundTrip.Statement .addIYSP := fun _ => rfl
theorem RoundTrip.addSPd (d : Byte) : RoundTrip.Statement (.addSPd d) := fun _ => rfl
theorem RoundTrip.altd : RoundTrip.Statement .altd := fun _ => rfl
theorem RoundTrip.andAtHL : RoundTrip.Statement .andAtHL := fun _ => rfl
theorem RoundTrip.andAtIXd (d : Byte) : RoundTrip.Statement (.andAtIXd d) := fun _ => rfl
theorem RoundTrip.andAtIYd (d : Byte) : RoundTrip.Statement (.andAtIYd d) := fun _ => rfl
theorem RoundTrip.andHLDE : RoundTrip.Statement .andHLDE := fun _ => rfl
theorem RoundTrip.andIXDE : RoundTrip.Statement .andIXDE := fun _ => rfl
theorem RoundTrip.andIYDE : RoundTrip.Statement .andIYDE := fun _ => rfl
theorem RoundTrip.andn (n : Byte) : RoundTrip.Statement (.andn n) := fun _ => rfl
theorem RoundTrip.andB : RoundTrip.Statement .andB := fun _ => rfl
theorem RoundTrip.andC : RoundTrip.Statement .andC := fun _ => rfl
theorem RoundTrip.andD : RoundTrip.Statement .andD := fun _ => rfl
theorem RoundTrip.andE : RoundTrip.Statement .andE := fun _ => rfl
theorem RoundTrip.andH : RoundTrip.Statement .andH := fun _ => rfl
theorem RoundTrip.andL : RoundTrip.Statement .andL := fun _ => rfl
theorem RoundTrip.andA : RoundTrip.Statement .andA := fun _ => rfl
theorem RoundTrip.bit0AtHL : RoundTrip.Statement .bit0AtHL := fun _ => rfl
theorem RoundTrip.bit1AtHL : RoundTrip.Statement .bit1AtHL := fun _ => rfl
theorem RoundTrip.bit2AtHL : RoundTrip.Statement .bit2AtHL := fun _ => rfl
theorem RoundTrip.bit3AtHL : RoundTrip.Statement .bit3AtHL := fun _ => rfl
theorem RoundTrip.bit4AtHL : RoundTrip.Statement .bit4AtHL := fun _ => rfl
theorem RoundTrip.bit5AtHL : RoundTrip.Statement .bit5AtHL := fun _ => rfl
theorem RoundTrip.bit6AtHL : RoundTrip.Statement .bit6AtHL := fun _ => rfl
theorem RoundTrip.bit7AtHL : RoundTrip.Statement .bit7AtHL := fun _ => rfl
theorem RoundTrip.bit0AtIXd (d : Byte) : RoundTrip.Statement (.bit0AtIXd d) := fun _ => rfl
theorem RoundTrip.bit1AtIXd (d : Byte) : RoundTrip.Statement (.bit1AtIXd d) := fun _ => rfl
theorem RoundTrip.bit2AtIXd (d : Byte) : RoundTrip.Statement (.bit2AtIXd d) := fun _ => rfl
theorem RoundTrip.bit3AtIXd (d : Byte) : RoundTrip.Statement (.bit3AtIXd d) := fun _ => rfl
theorem RoundTrip.bit4AtIXd (d : Byte) : RoundTrip.Statement (.bit4AtIXd d) := fun _ => rfl
theorem RoundTrip.bit5AtIXd (d : Byte) : RoundTrip.Statement (.bit5AtIXd d) := fun _ => rfl
theorem RoundTrip.bit6AtIXd (d : Byte) : RoundTrip.Statement (.bit6AtIXd d) := fun _ => rfl
theorem RoundTrip.bit7AtIXd (d : Byte) : RoundTrip.Statement (.bit7AtIXd d) := fun _ => rfl
theorem RoundTrip.bit0AtIYd (d : Byte) : RoundTrip.Statement (.bit0AtIYd d) := fun _ => rfl
theorem RoundTrip.bit1AtIYd (d : Byte) : RoundTrip.Statement (.bit1AtIYd d) := fun _ => rfl
theorem RoundTrip.bit2AtIYd (d : Byte) : RoundTrip.Statement (.bit2AtIYd d) := fun _ => rfl
theorem RoundTrip.bit3AtIYd (d : Byte) : RoundTrip.Statement (.bit3AtIYd d) := fun _ => rfl
theorem RoundTrip.bit4AtIYd (d : Byte) : RoundTrip.Statement (.bit4AtIYd d) := fun _ => rfl
theorem RoundTrip.bit5AtIYd (d : Byte) : RoundTrip.Statement (.bit5AtIYd d) := fun _ => rfl
theorem RoundTrip.bit6AtIYd (d : Byte) : RoundTrip.Statement (.bit6AtIYd d) := fun _ => rfl
theorem RoundTrip.bit7AtIYd (d : Byte) : RoundTrip.Statement (.bit7AtIYd d) := fun _ => rfl
theorem RoundTrip.bit0B : RoundTrip.Statement .bit0B := fun _ => rfl
theorem RoundTrip.bit0C : RoundTrip.Statement .bit0C := fun _ => rfl
theorem RoundTrip.bit0D : RoundTrip.Statement .bit0D := fun _ => rfl
theorem RoundTrip.bit0E : RoundTrip.Statement .bit0E := fun _ => rfl
theorem RoundTrip.bit0H : RoundTrip.Statement .bit0H := fun _ => rfl
theorem RoundTrip.bit0L : RoundTrip.Statement .bit0L := fun _ => rfl
theorem RoundTrip.bit0A : RoundTrip.Statement .bit0A := fun _ => rfl
theorem RoundTrip.bit1B : RoundTrip.Statement .bit1B := fun _ => rfl
theorem RoundTrip.bit1C : RoundTrip.Statement .bit1C := fun _ => rfl
theorem RoundTrip.bit1D : RoundTrip.Statement .bit1D := fun _ => rfl
theorem RoundTrip.bit1E : RoundTrip.Statement .bit1E := fun _ => rfl
theorem RoundTrip.bit1H : RoundTrip.Statement .bit1H := fun _ => rfl
theorem RoundTrip.bit1L : RoundTrip.Statement .bit1L := fun _ => rfl
theorem RoundTrip.bit1A : RoundTrip.Statement .bit1A := fun _ => rfl
theorem RoundTrip.bit2B : RoundTrip.Statement .bit2B := fun _ => rfl
theorem RoundTrip.bit2C : RoundTrip.Statement .bit2C := fun _ => rfl
theorem RoundTrip.bit2D : RoundTrip.Statement .bit2D := fun _ => rfl
theorem RoundTrip.bit2E : RoundTrip.Statement .bit2E := fun _ => rfl
theorem RoundTrip.bit2H : RoundTrip.Statement .bit2H := fun _ => rfl
theorem RoundTrip.bit2L : RoundTrip.Statement .bit2L := fun _ => rfl
theorem RoundTrip.bit2A : RoundTrip.Statement .bit2A := fun _ => rfl
theorem RoundTrip.bit3B : RoundTrip.Statement .bit3B := fun _ => rfl
theorem RoundTrip.bit3C : RoundTrip.Statement .bit3C := fun _ => rfl
theorem RoundTrip.bit3D : RoundTrip.Statement .bit3D := fun _ => rfl
theorem RoundTrip.bit3E : RoundTrip.Statement .bit3E := fun _ => rfl
theorem RoundTrip.bit3H : RoundTrip.Statement .bit3H := fun _ => rfl
theorem RoundTrip.bit3L : RoundTrip.Statement .bit3L := fun _ => rfl
theorem RoundTrip.bit3A : RoundTrip.Statement .bit3A := fun _ => rfl
theorem RoundTrip.bit4B : RoundTrip.Statement .bit4B := fun _ => rfl
theorem RoundTrip.bit4C : RoundTrip.Statement .bit4C := fun _ => rfl
theorem RoundTrip.bit4D : RoundTrip.Statement .bit4D := fun _ => rfl
theorem RoundTrip.bit4E : RoundTrip.Statement .bit4E := fun _ => rfl
theorem RoundTrip.bit4H : RoundTrip.Statement .bit4H := fun _ => rfl
theorem RoundTrip.bit4L : RoundTrip.Statement .bit4L := fun _ => rfl
theorem RoundTrip.bit4A : RoundTrip.Statement .bit4A := fun _ => rfl
theorem RoundTrip.bit5B : RoundTrip.Statement .bit5B := fun _ => rfl
theorem RoundTrip.bit5C : RoundTrip.Statement .bit5C := fun _ => rfl
theorem RoundTrip.bit5D : RoundTrip.Statement .bit5D := fun _ => rfl
theorem RoundTrip.bit5E : RoundTrip.Statement .bit5E := fun _ => rfl
theorem RoundTrip.bit5H : RoundTrip.Statement .bit5H := fun _ => rfl
theorem RoundTrip.bit5L : RoundTrip.Statement .bit5L := fun _ => rfl
theorem RoundTrip.bit5A : RoundTrip.Statement .bit5A := fun _ => rfl
theorem RoundTrip.bit6B : RoundTrip.Statement .bit6B := fun _ => rfl
theorem RoundTrip.bit6C : RoundTrip.Statement .bit6C := fun _ => rfl
theorem RoundTrip.bit6D : RoundTrip.Statement .bit6D := fun _ => rfl
theorem RoundTrip.bit6E : RoundTrip.Statement .bit6E := fun _ => rfl
theorem RoundTrip.bit6H : RoundTrip.Statement .bit6H := fun _ => rfl
theorem RoundTrip.bit6L : RoundTrip.Statement .bit6L := fun _ => rfl
theorem RoundTrip.bit6A : RoundTrip.Statement .bit6A := fun _ => rfl
theorem RoundTrip.bit7B : RoundTrip.Statement .bit7B := fun _ => rfl
theorem RoundTrip.bit7C : RoundTrip.Statement .bit7C := fun _ => rfl
theorem RoundTrip.bit7D : RoundTrip.Statement .bit7D := fun _ => rfl
theorem RoundTrip.bit7E : RoundTrip.Statement .bit7E := fun _ => rfl
theorem RoundTrip.bit7H : RoundTrip.Statement .bit7H := fun _ => rfl
theorem RoundTrip.bit7L : RoundTrip.Statement .bit7L := fun _ => rfl
theorem RoundTrip.bit7A : RoundTrip.Statement .bit7A := fun _ => rfl
theorem RoundTrip.boolHL : RoundTrip.Statement .boolHL := fun _ => rfl
theorem RoundTrip.boolIX : RoundTrip.Statement .boolIX := fun _ => rfl
theorem RoundTrip.boolIY : RoundTrip.Statement .boolIY := fun _ => rfl
theorem RoundTrip.callmn (mn : Word) : RoundTrip.Statement (.callmn mn) := fun rest =>
  (congrArg (fun w => RowResult.row (.callmn w) rest) (word_hi_lo mn) :)
theorem RoundTrip.ccf : RoundTrip.Statement .ccf := fun _ => rfl
theorem RoundTrip.cpAtHL : RoundTrip.Statement .cpAtHL := fun _ => rfl
theorem RoundTrip.cpAtIXd (d : Byte) : RoundTrip.Statement (.cpAtIXd d) := fun _ => rfl
theorem RoundTrip.cpAtIYd (d : Byte) : RoundTrip.Statement (.cpAtIYd d) := fun _ => rfl
theorem RoundTrip.cpn (n : Byte) : RoundTrip.Statement (.cpn n) := fun _ => rfl
theorem RoundTrip.cpB : RoundTrip.Statement .cpB := fun _ => rfl
theorem RoundTrip.cpC : RoundTrip.Statement .cpC := fun _ => rfl
theorem RoundTrip.cpD : RoundTrip.Statement .cpD := fun _ => rfl
theorem RoundTrip.cpE : RoundTrip.Statement .cpE := fun _ => rfl
theorem RoundTrip.cpH : RoundTrip.Statement .cpH := fun _ => rfl
theorem RoundTrip.cpL : RoundTrip.Statement .cpL := fun _ => rfl
theorem RoundTrip.cpA : RoundTrip.Statement .cpA := fun _ => rfl
theorem RoundTrip.cpl : RoundTrip.Statement .cpl := fun _ => rfl
theorem RoundTrip.decAtHL : RoundTrip.Statement .decAtHL := fun _ => rfl
theorem RoundTrip.decAtIXd (d : Byte) : RoundTrip.Statement (.decAtIXd d) := fun _ => rfl
theorem RoundTrip.decAtIYd (d : Byte) : RoundTrip.Statement (.decAtIYd d) := fun _ => rfl
theorem RoundTrip.decIX : RoundTrip.Statement .decIX := fun _ => rfl
theorem RoundTrip.decIY : RoundTrip.Statement .decIY := fun _ => rfl
theorem RoundTrip.decB : RoundTrip.Statement .decB := fun _ => rfl
theorem RoundTrip.decC : RoundTrip.Statement .decC := fun _ => rfl
theorem RoundTrip.decD : RoundTrip.Statement .decD := fun _ => rfl
theorem RoundTrip.decE : RoundTrip.Statement .decE := fun _ => rfl
theorem RoundTrip.decH : RoundTrip.Statement .decH := fun _ => rfl
theorem RoundTrip.decL : RoundTrip.Statement .decL := fun _ => rfl
theorem RoundTrip.decA : RoundTrip.Statement .decA := fun _ => rfl
theorem RoundTrip.decBC : RoundTrip.Statement .decBC := fun _ => rfl
theorem RoundTrip.decDE : RoundTrip.Statement .decDE := fun _ => rfl
theorem RoundTrip.decHL : RoundTrip.Statement .decHL := fun _ => rfl
theorem RoundTrip.decSP : RoundTrip.Statement .decSP := fun _ => rfl
theorem RoundTrip.djnze (k : Byte) : RoundTrip.Statement (.djnze k) := fun _ => rfl
theorem RoundTrip.exAtSPHL : RoundTrip.Statement .exAtSPHL := fun _ => rfl
theorem RoundTrip.exAtSPIX : RoundTrip.Statement .exAtSPIX := fun _ => rfl
theorem RoundTrip.exAtSPIY : RoundTrip.Statement .exAtSPIY := fun _ => rfl
theorem RoundTrip.exAFAFalt : RoundTrip.Statement .exAFAFalt := fun _ => rfl
theorem RoundTrip.exDEHL : RoundTrip.Statement .exDEHL := fun _ => rfl
theorem RoundTrip.exDEaltHL : RoundTrip.Statement .exDEaltHL := fun _ => rfl
theorem RoundTrip.exx : RoundTrip.Statement .exx := fun _ => rfl
theorem RoundTrip.incAtHL : RoundTrip.Statement .incAtHL := fun _ => rfl
theorem RoundTrip.incAtIXd (d : Byte) : RoundTrip.Statement (.incAtIXd d) := fun _ => rfl
theorem RoundTrip.incAtIYd (d : Byte) : RoundTrip.Statement (.incAtIYd d) := fun _ => rfl
theorem RoundTrip.incIX : RoundTrip.Statement .incIX := fun _ => rfl
theorem RoundTrip.incIY : RoundTrip.Statement .incIY := fun _ => rfl
theorem RoundTrip.incB : RoundTrip.Statement .incB := fun _ => rfl
theorem RoundTrip.incC : RoundTrip.Statement .incC := fun _ => rfl
theorem RoundTrip.incD : RoundTrip.Statement .incD := fun _ => rfl
theorem RoundTrip.incE : RoundTrip.Statement .incE := fun _ => rfl
theorem RoundTrip.incH : RoundTrip.Statement .incH := fun _ => rfl
theorem RoundTrip.incL : RoundTrip.Statement .incL := fun _ => rfl
theorem RoundTrip.incA : RoundTrip.Statement .incA := fun _ => rfl
theorem RoundTrip.incBC : RoundTrip.Statement .incBC := fun _ => rfl
theorem RoundTrip.incDE : RoundTrip.Statement .incDE := fun _ => rfl
theorem RoundTrip.incHL : RoundTrip.Statement .incHL := fun _ => rfl
theorem RoundTrip.incSP : RoundTrip.Statement .incSP := fun _ => rfl
theorem RoundTrip.ioe : RoundTrip.Statement .ioe := fun _ => rfl
theorem RoundTrip.ioi : RoundTrip.Statement .ioi := fun _ => rfl
theorem RoundTrip.ipset0 : RoundTrip.Statement .ipset0 := fun _ => rfl
theorem RoundTrip.ipset1 : RoundTrip.Statement .ipset1 := fun _ => rfl
theorem RoundTrip.ipset2 : RoundTrip.Statement .ipset2 := fun _ => rfl
theorem RoundTrip.ipset3 : RoundTrip.Statement .ipset3 := fun _ => rfl
theorem RoundTrip.ipres : RoundTrip.Statement .ipres := fun _ => rfl
theorem RoundTrip.jpAtHL : RoundTrip.Statement .jpAtHL := fun _ => rfl
theorem RoundTrip.jpAtIX : RoundTrip.Statement .jpAtIX := fun _ => rfl
theorem RoundTrip.jpAtIY : RoundTrip.Statement .jpAtIY := fun _ => rfl
theorem RoundTrip.jpmn (mn : Word) : RoundTrip.Statement (.jpmn mn) := fun rest =>
  (congrArg (fun w => RowResult.row (.jpmn w) rest) (word_hi_lo mn) :)
theorem RoundTrip.jpNZmn (mn : Word) : RoundTrip.Statement (.jpNZmn mn) := fun rest =>
  (congrArg (fun w => RowResult.row (.jpNZmn w) rest) (word_hi_lo mn) :)
theorem RoundTrip.jpZmn (mn : Word) : RoundTrip.Statement (.jpZmn mn) := fun rest =>
  (congrArg (fun w => RowResult.row (.jpZmn w) rest) (word_hi_lo mn) :)
theorem RoundTrip.jpNCmn (mn : Word) : RoundTrip.Statement (.jpNCmn mn) := fun rest =>
  (congrArg (fun w => RowResult.row (.jpNCmn w) rest) (word_hi_lo mn) :)
theorem RoundTrip.jpCmn (mn : Word) : RoundTrip.Statement (.jpCmn mn) := fun rest =>
  (congrArg (fun w => RowResult.row (.jpCmn w) rest) (word_hi_lo mn) :)
theorem RoundTrip.jpLZmn (mn : Word) : RoundTrip.Statement (.jpLZmn mn) := fun rest =>
  (congrArg (fun w => RowResult.row (.jpLZmn w) rest) (word_hi_lo mn) :)
theorem RoundTrip.jpLOmn (mn : Word) : RoundTrip.Statement (.jpLOmn mn) := fun rest =>
  (congrArg (fun w => RowResult.row (.jpLOmn w) rest) (word_hi_lo mn) :)
theorem RoundTrip.jpPmn (mn : Word) : RoundTrip.Statement (.jpPmn mn) := fun rest =>
  (congrArg (fun w => RowResult.row (.jpPmn w) rest) (word_hi_lo mn) :)
theorem RoundTrip.jpMmn (mn : Word) : RoundTrip.Statement (.jpMmn mn) := fun rest =>
  (congrArg (fun w => RowResult.row (.jpMmn w) rest) (word_hi_lo mn) :)
theorem RoundTrip.jrNZe (k : Byte) : RoundTrip.Statement (.jrNZe k) := fun _ => rfl
theorem RoundTrip.jrZe (k : Byte) : RoundTrip.Statement (.jrZe k) := fun _ => rfl
theorem RoundTrip.jrNCe (k : Byte) : RoundTrip.Statement (.jrNCe k) := fun _ => rfl
theorem RoundTrip.jrCe (k : Byte) : RoundTrip.Statement (.jrCe k) := fun _ => rfl
theorem RoundTrip.jre (k : Byte) : RoundTrip.Statement (.jre k) := fun _ => rfl
theorem RoundTrip.lcallxmn (x : Byte) (mn : Word) : RoundTrip.Statement (.lcallxmn x mn) := fun rest =>
  (congrArg (fun w => RowResult.row (.lcallxmn x w) rest) (word_hi_lo mn) :)
theorem RoundTrip.ldAtBCA : RoundTrip.Statement .ldAtBCA := fun _ => rfl
theorem RoundTrip.ldAtDEA : RoundTrip.Statement .ldAtDEA := fun _ => rfl
theorem RoundTrip.ldAtHLn (n : Byte) : RoundTrip.Statement (.ldAtHLn n) := fun _ => rfl
theorem RoundTrip.ldAtHLB : RoundTrip.Statement .ldAtHLB := fun _ => rfl
theorem RoundTrip.ldAtHLC : RoundTrip.Statement .ldAtHLC := fun _ => rfl
theorem RoundTrip.ldAtHLD : RoundTrip.Statement .ldAtHLD := fun _ => rfl
theorem RoundTrip.ldAtHLE : RoundTrip.Statement .ldAtHLE := fun _ => rfl
theorem RoundTrip.ldAtHLH : RoundTrip.Statement .ldAtHLH := fun _ => rfl
theorem RoundTrip.ldAtHLL : RoundTrip.Statement .ldAtHLL := fun _ => rfl
theorem RoundTrip.ldAtHLA : RoundTrip.Statement .ldAtHLA := fun _ => rfl
theorem RoundTrip.ldAtHLdHL (d : Byte) : RoundTrip.Statement (.ldAtHLdHL d) := fun _ => rfl
theorem RoundTrip.ldAtIXdHL (d : Byte) : RoundTrip.Statement (.ldAtIXdHL d) := fun _ => rfl
theorem RoundTrip.ldAtIXdn (d : Byte) (n : Byte) : RoundTrip.Statement (.ldAtIXdn d n) := fun _ => rfl
theorem RoundTrip.ldAtIXdB (d : Byte) : RoundTrip.Statement (.ldAtIXdB d) := fun _ => rfl
theorem RoundTrip.ldAtIXdC (d : Byte) : RoundTrip.Statement (.ldAtIXdC d) := fun _ => rfl
theorem RoundTrip.ldAtIXdD (d : Byte) : RoundTrip.Statement (.ldAtIXdD d) := fun _ => rfl
theorem RoundTrip.ldAtIXdE (d : Byte) : RoundTrip.Statement (.ldAtIXdE d) := fun _ => rfl
theorem RoundTrip.ldAtIXdH (d : Byte) : RoundTrip.Statement (.ldAtIXdH d) := fun _ => rfl
theorem RoundTrip.ldAtIXdL (d : Byte) : RoundTrip.Statement (.ldAtIXdL d) := fun _ => rfl
theorem RoundTrip.ldAtIXdA (d : Byte) : RoundTrip.Statement (.ldAtIXdA d) := fun _ => rfl
theorem RoundTrip.ldAtIYdHL (d : Byte) : RoundTrip.Statement (.ldAtIYdHL d) := fun _ => rfl
theorem RoundTrip.ldAtIYdn (d : Byte) (n : Byte) : RoundTrip.Statement (.ldAtIYdn d n) := fun _ => rfl
theorem RoundTrip.ldAtIYdB (d : Byte) : RoundTrip.Statement (.ldAtIYdB d) := fun _ => rfl
theorem RoundTrip.ldAtIYdC (d : Byte) : RoundTrip.Statement (.ldAtIYdC d) := fun _ => rfl
theorem RoundTrip.ldAtIYdD (d : Byte) : RoundTrip.Statement (.ldAtIYdD d) := fun _ => rfl
theorem RoundTrip.ldAtIYdE (d : Byte) : RoundTrip.Statement (.ldAtIYdE d) := fun _ => rfl
theorem RoundTrip.ldAtIYdH (d : Byte) : RoundTrip.Statement (.ldAtIYdH d) := fun _ => rfl
theorem RoundTrip.ldAtIYdL (d : Byte) : RoundTrip.Statement (.ldAtIYdL d) := fun _ => rfl
theorem RoundTrip.ldAtIYdA (d : Byte) : RoundTrip.Statement (.ldAtIYdA d) := fun _ => rfl
theorem RoundTrip.ldAtmnA (mn : Word) : RoundTrip.Statement (.ldAtmnA mn) := fun rest =>
  (congrArg (fun w => RowResult.row (.ldAtmnA w) rest) (word_hi_lo mn) :)
theorem RoundTrip.ldAtmnHL (mn : Word) : RoundTrip.Statement (.ldAtmnHL mn) := fun rest =>
  (congrArg (fun w => RowResult.row (.ldAtmnHL w) rest) (word_hi_lo mn) :)
theorem RoundTrip.ldAtmnIX (mn : Word) : RoundTrip.Statement (.ldAtmnIX mn) := fun rest =>
  (congrArg (fun w => RowResult.row (.ldAtmnIX w) rest) (word_hi_lo mn) :)
theorem RoundTrip.ldAtmnIY (mn : Word) : RoundTrip.Statement (.ldAtmnIY mn) := fun rest =>
  (congrArg (fun w => RowResult.row (.ldAtmnIY w) rest) (word_hi_lo mn) :)
theorem RoundTrip.ldAtmnBC (mn : Word) : RoundTrip.Statement (.ldAtmnBC mn) := fun rest =>
  (congrArg (fun w => RowResult.row (.ldAtmnBC w) rest) (word_hi_lo mn) :)
theorem RoundTrip.ldAtmnDE (mn : Word) : RoundTrip.Statement (.ldAtmnDE mn) := fun rest =>
  (congrArg (fun w => RowResult.row (.ldAtmnDE w) rest) (word_hi_lo mn) :)
theorem RoundTrip.ldAtmnHLed (mn : Word) : RoundTrip.Statement (.ldAtmnHLed mn) := fun rest =>
  (congrArg (fun w => RowResult.row (.ldAtmnHLed w) rest) (word_hi_lo mn) :)
theorem RoundTrip.ldAtmnSP (mn : Word) : RoundTrip.Statement (.ldAtmnSP mn) := fun rest =>
  (congrArg (fun w => RowResult.row (.ldAtmnSP w) rest) (word_hi_lo mn) :)
theorem RoundTrip.ldAtSPnHL (n : Byte) : RoundTrip.Statement (.ldAtSPnHL n) := fun _ => rfl
theorem RoundTrip.ldAtSPnIX (n : Byte) : RoundTrip.Statement (.ldAtSPnIX n) := fun _ => rfl
theorem RoundTrip.ldAtSPnIY (n : Byte) : RoundTrip.Statement (.ldAtSPnIY n) := fun _ => rfl
theorem RoundTrip.ldAAtBC : RoundTrip.Statement .ldAAtBC := fun _ => rfl
theorem RoundTrip.ldAAtDE : RoundTrip.Statement .ldAAtDE := fun _ => rfl
theorem RoundTrip.ldAAtmn (mn : Word) : RoundTrip.Statement (.ldAAtmn mn) := fun rest =>
  (congrArg (fun w => RowResult.row (.ldAAtmn w) rest) (word_hi_lo mn) :)
theorem RoundTrip.ldAEIR : RoundTrip.Statement .ldAEIR := fun _ => rfl
theorem RoundTrip.ldAIIR : RoundTrip.Statement .ldAIIR := fun _ => rfl
theorem RoundTrip.ldAXPC : RoundTrip.Statement .ldAXPC := fun _ => rfl
theorem RoundTrip.ldBCAtmn (mn : Word) : RoundTrip.Statement (.ldBCAtmn mn) := fun rest =>
  (congrArg (fun w => RowResult.row (.ldBCAtmn w) rest) (word_hi_lo mn) :)
theorem RoundTrip.ldDEAtmn (mn : Word) : RoundTrip.Statement (.ldDEAtmn mn) := fun rest =>
  (congrArg (fun w => RowResult.row (.ldDEAtmn w) rest) (word_hi_lo mn) :)
theorem RoundTrip.ldSPAtmn (mn : Word) : RoundTrip.Statement (.ldSPAtmn mn) := fun rest =>
  (congrArg (fun w => RowResult.row (.ldSPAtmn w) rest) (word_hi_lo mn) :)
theorem RoundTrip.ldHLAtmn (mn : Word) : RoundTrip.Statement (.ldHLAtmn mn) := fun rest =>
  (congrArg (fun w => RowResult.row (.ldHLAtmn w) rest) (word_hi_lo mn) :)
theorem RoundTrip.ldBCaltBC : RoundTrip.Statement .ldBCaltBC := fun _ => rfl
theorem RoundTrip.ldDEaltBC : RoundTrip.Statement .ldDEaltBC := fun _ => rfl
theorem RoundTrip.ldHLaltBC : RoundTrip.Statement .ldHLaltBC := fun _ => rfl
theorem RoundTrip.ldBCaltDE : RoundTrip.Statement .ldBCaltDE := fun _ => rfl
theorem RoundTrip.ldDEaltDE : RoundTrip.Statement .ldDEaltDE := fun _ => rfl
theorem RoundTrip.ldHLaltDE : RoundTrip.Statement .ldHLaltDE := fun _ => rfl
theorem RoundTrip.ldBCmn (mn : Word) : RoundTrip.Statement (.ldBCmn mn) := fun rest =>
  (congrArg (fun w => RowResult.row (.ldBCmn w) rest) (word_hi_lo mn) :)
theorem RoundTrip.ldDEmn (mn : Word) : RoundTrip.Statement (.ldDEmn mn) := fun rest =>
  (congrArg (fun w => RowResult.row (.ldDEmn w) rest) (word_hi_lo mn) :)
theorem RoundTrip.ldHLmn (mn : Word) : RoundTrip.Statement (.ldHLmn mn) := fun rest =>
  (congrArg (fun w => RowResult.row (.ldHLmn w) rest) (word_hi_lo mn) :)
theorem RoundTrip.ldSPmn (mn : Word) : RoundTrip.Statement (.ldSPmn mn) := fun rest =>
  (congrArg (fun w => RowResult.row (.ldSPmn w) rest) (word_hi_lo mn) :)
theorem RoundTrip.ldEIRA : RoundTrip.Statement .ldEIRA := fun _ => rfl
theorem RoundTrip.ldIIRA : RoundTrip.Statement .ldIIRA := fun _ => rfl
theorem RoundTrip.ldHLAtHLd (d : Byte) : RoundTrip.Statement (.ldHLAtHLd d) := fun _ => rfl
theorem RoundTrip.ldHLAtIXd (d : Byte) : RoundTrip.Statement (.ldHLAtIXd d) := fun _ => rfl
theorem RoundTrip.ldHLAtIYd (d : Byte) : RoundTrip.Statement (.ldHLAtIYd d) := fun _ => rfl
theorem RoundTrip.ldHLAtSPn (n : Byte) : RoundTrip.Statement (.ldHLAtSPn n) := fun _ => rfl
theorem RoundTrip.ldHLIX : RoundTrip.Statement .ldHLIX := fun _ => rfl
theorem RoundTrip.ldHLIY : RoundTrip.Statement .ldHLIY := fun _ => rfl
theorem RoundTrip.ldIXAtmn (mn : Word) : RoundTrip.Statement (.ldIXAtmn mn) := fun rest =>
  (congrArg (fun w => RowResult.row (.ldIXAtmn w) rest) (word_hi_lo mn) :)
theorem RoundTrip.ldIXAtSPn (n : Byte) : RoundTrip.Statement (.ldIXAtSPn n) := fun _ => rfl
theorem RoundTrip.ldIXHL : RoundTrip.Statement .ldIXHL := fun _ => rfl
theorem RoundTrip.ldIXmn (mn : Word) : RoundTrip.Statement (.ldIXmn mn) := fun rest =>
  (congrArg (fun w => RowResult.row (.ldIXmn w) rest) (word_hi_lo mn) :)
theorem RoundTrip.ldIYHL : RoundTrip.Statement .ldIYHL := fun _ => rfl
theorem RoundTrip.ldIYmn (mn : Word) : RoundTrip.Statement (.ldIYmn mn) := fun rest =>
  (congrArg (fun w => RowResult.row (.ldIYmn w) rest) (word_hi_lo mn) :)
theorem RoundTrip.ldIYAtmn (mn : Word) : RoundTrip.Statement (.ldIYAtmn mn) := fun rest =>
  (congrArg (fun w => RowResult.row (.ldIYAtmn w) rest) (word_hi_lo mn) :)
theorem RoundTrip.ldIYAtSPn (n : Byte) : RoundTrip.Statement (.ldIYAtSPn n) := fun _ => rfl
theorem RoundTrip.ldBAtHL : RoundTrip.Statement .ldBAtHL := fun _ => rfl
theorem RoundTrip.ldCAtHL : RoundTrip.Statement .ldCAtHL := fun _ => rfl
theorem RoundTrip.ldDAtHL : RoundTrip.Statement .ldDAtHL := fun _ => rfl
theorem RoundTrip.ldEAtHL : RoundTrip.Statement .ldEAtHL := fun _ => rfl
theorem RoundTrip.ldHAtHL : RoundTrip.Statement .ldHAtHL := fun _ => rfl
theorem RoundTrip.ldLAtHL : RoundTrip.Statement .ldLAtHL := fun _ => rfl
theorem RoundTrip.ldAAtHL : RoundTrip.Statement .ldAAtHL := fun _ => rfl
theorem RoundTrip.ldBAtIXd (d : Byte) : RoundTrip.Statement (.ldBAtIXd d) := fun _ => rfl
theorem RoundTrip.ldCAtIXd (d : Byte) : RoundTrip.Statement (.ldCAtIXd d) := fun _ => rfl
theorem RoundTrip.ldDAtIXd (d : Byte) : RoundTrip.Statement (.ldDAtIXd d) := fun _ => rfl
theorem RoundTrip.ldEAtIXd (d : Byte) : RoundTrip.Statement (.ldEAtIXd d) := fun _ => rfl
theorem RoundTrip.ldHAtIXd (d : Byte) : RoundTrip.Statement (.ldHAtIXd d) := fun _ => rfl
theorem RoundTrip.ldLAtIXd (d : Byte) : RoundTrip.Statement (.ldLAtIXd d) := fun _ => rfl
theorem RoundTrip.ldAAtIXd (d : Byte) : RoundTrip.Statement (.ldAAtIXd d) := fun _ => rfl
theorem RoundTrip.ldBAtIYd (d : Byte) : RoundTrip.Statement (.ldBAtIYd d) := fun _ => rfl
theorem RoundTrip.ldCAtIYd (d : Byte) : RoundTrip.Statement (.ldCAtIYd d) := fun _ => rfl
theorem RoundTrip.ldDAtIYd (d : Byte) : RoundTrip.Statement (.ldDAtIYd d) := fun _ => rfl
theorem RoundTrip.ldEAtIYd (d : Byte) : RoundTrip.Statement (.ldEAtIYd d) := fun _ => rfl
theorem RoundTrip.ldHAtIYd (d : Byte) : RoundTrip.Statement (.ldHAtIYd d) := fun _ => rfl
theorem RoundTrip.ldLAtIYd (d : Byte) : RoundTrip.Statement (.ldLAtIYd d) := fun _ => rfl
theorem RoundTrip.ldAAtIYd (d : Byte) : RoundTrip.Statement (.ldAAtIYd d) := fun _ => rfl
theorem RoundTrip.ldBn (n : Byte) : RoundTrip.Statement (.ldBn n) := fun _ => rfl
theorem RoundTrip.ldCn (n : Byte) : RoundTrip.Statement (.ldCn n) := fun _ => rfl
theorem RoundTrip.ldDn (n : Byte) : RoundTrip.Statement (.ldDn n) := fun _ => rfl
theorem RoundTrip.ldEn (n : Byte) : RoundTrip.Statement (.ldEn n) := fun _ => rfl
theorem RoundTrip.ldHn (n : Byte) : RoundTrip.Statement (.ldHn n) := fun _ => rfl
theorem RoundTrip.ldLn (n : Byte) : RoundTrip.Statement (.ldLn n) := fun _ => rfl
theorem RoundTrip.ldAn (n : Byte) : RoundTrip.Statement (.ldAn n) := fun _ => rfl
theorem RoundTrip.ldBB : RoundTrip.Statement .ldBB := fun _ => rfl
theorem RoundTrip.ldBC : RoundTrip.Statement .ldBC := fun _ => rfl
theorem RoundTrip.ldBD : RoundTrip.Statement .ldBD := fun _ => rfl
theorem RoundTrip.ldBE : RoundTrip.Statement .ldBE := fun _ => rfl
theorem RoundTrip.ldBH : RoundTrip.Statement .ldBH := fun _ => rfl
theorem RoundTrip.ldBL : RoundTrip.Statement .ldBL := fun _ => rfl
theorem RoundTrip.ldBA : RoundTrip.Statement .ldBA := fun _ => rfl
theorem RoundTrip.ldCB : RoundTrip.Statement .ldCB := fun _ => rfl
theorem RoundTrip.ldCC : RoundTrip.Statement .ldCC := fun _ => rfl
theorem RoundTrip.ldCD : RoundTrip.Statement .ldCD := fun _ => rfl
theorem RoundTrip.ldCE : RoundTrip.Statement .ldCE := fun _ => rfl
theorem RoundTrip.ldCH : RoundTrip.Statement .ldCH := fun _ => rfl
theorem RoundTrip.ldCL : RoundTrip.Statement .ldCL := fun _ => rfl
theorem RoundTrip.ldCA : RoundTrip.Statement .ldCA := fun _ => rfl
theorem RoundTrip.ldDB : RoundTrip.Statement .ldDB := fun _ => rfl
theorem RoundTrip.ldDC : RoundTrip.Statement .ldDC := fun _ => rfl
theorem RoundTrip.ldDD : RoundTrip.Statement .ldDD := fun _ => rfl
theorem RoundTrip.ldDE : RoundTrip.Statement .ldDE := fun _ => rfl
theorem RoundTrip.ldDH : RoundTrip.Statement .ldDH := fun _ => rfl
theorem RoundTrip.ldDL : RoundTrip.Statement .ldDL := fun _ => rfl
theorem RoundTrip.ldDA : RoundTrip.Statement .ldDA := fun _ => rfl
theorem RoundTrip.ldEB : RoundTrip.Statement .ldEB := fun _ => rfl
theorem RoundTrip.ldEC : RoundTrip.Statement .ldEC := fun _ => rfl
theorem RoundTrip.ldED : RoundTrip.Statement .ldED := fun _ => rfl
theorem RoundTrip.ldEE : RoundTrip.Statement .ldEE := fun _ => rfl
theorem RoundTrip.ldEH : RoundTrip.Statement .ldEH := fun _ => rfl
theorem RoundTrip.ldEL : RoundTrip.Statement .ldEL := fun _ => rfl
theorem RoundTrip.ldEA : RoundTrip.Statement .ldEA := fun _ => rfl
theorem RoundTrip.ldHB : RoundTrip.Statement .ldHB := fun _ => rfl
theorem RoundTrip.ldHC : RoundTrip.Statement .ldHC := fun _ => rfl
theorem RoundTrip.ldHD : RoundTrip.Statement .ldHD := fun _ => rfl
theorem RoundTrip.ldHE : RoundTrip.Statement .ldHE := fun _ => rfl
theorem RoundTrip.ldHH : RoundTrip.Statement .ldHH := fun _ => rfl
theorem RoundTrip.ldHL : RoundTrip.Statement .ldHL := fun _ => rfl
theorem RoundTrip.ldHA : RoundTrip.Statement .ldHA := fun _ => rfl
theorem RoundTrip.ldLB : RoundTrip.Statement .ldLB := fun _ => rfl
theorem RoundTrip.ldLC : RoundTrip.Statement .ldLC := fun _ => rfl
theorem RoundTrip.ldLD : RoundTrip.Statement .ldLD := fun _ => rfl
theorem RoundTrip.ldLE : RoundTrip.Statement .ldLE := fun _ => rfl
theorem RoundTrip.ldLH : RoundTrip.Statement .ldLH := fun _ => rfl
theorem RoundTrip.ldLL : RoundTrip.Statement .ldLL := fun _ => rfl
theorem RoundTrip.ldLA : RoundTrip.Statement .ldLA := fun _ => rfl
theorem RoundTrip.ldAB : RoundTrip.Statement .ldAB := fun _ => rfl
theorem RoundTrip.ldAC : RoundTrip.Statement .ldAC := fun _ => rfl
theorem RoundTrip.ldAD : RoundTrip.Statement .ldAD := fun _ => rfl
theorem RoundTrip.ldAE : RoundTrip.Statement .ldAE := fun _ => rfl
theorem RoundTrip.ldAH : RoundTrip.Statement .ldAH := fun _ => rfl
theorem RoundTrip.ldAL : RoundTrip.Statement .ldAL := fun _ => rfl
theorem RoundTrip.ldAA : RoundTrip.Statement .ldAA := fun _ => rfl
theorem RoundTrip.ldSPHL : RoundTrip.Statement .ldSPHL := fun _ => rfl
theorem RoundTrip.ldSPIX : RoundTrip.Statement .ldSPIX := fun _ => rfl
theorem RoundTrip.ldSPIY : RoundTrip.Statement .ldSPIY := fun _ => rfl
theorem RoundTrip.ldXPCA : RoundTrip.Statement .ldXPCA := fun _ => rfl
theorem RoundTrip.ldd : RoundTrip.Statement .ldd := fun _ => rfl
theorem RoundTrip.lddr : RoundTrip.Statement .lddr := fun _ => rfl
theorem RoundTrip.ldi : RoundTrip.Statement .ldi := fun _ => rfl
theorem RoundTrip.ldir : RoundTrip.Statement .ldir := fun _ => rfl

end Sys2Proof.Laws
end

