-- ==== Sys2Proof/Tests/Slice0.lean ====
section
/-! SUPPORT. Tests. Expected results come from the spec: the encodings of `opcode_table.json`, the vectors of
`95_test_vectors.md` (the theorems carry their ids), and for the witnesses the hypotheses of the statements. -/

namespace Sys2Proof.Tests

open Sys2Proof Machine Expect

/-! ## Each check of WellFormed refuses an ill-formed term -/

theorem test_wf_core_is_prefix : (⟨[], .altd⟩ : Prefixed).rowsWf = false := by decide
theorem test_wf_prefix_is_core : (⟨[.cpl], .cpl⟩ : Prefixed).rowsWf = false := by decide
theorem test_wf_two_altd : (⟨[.altd, .altd], .cpl⟩ : Prefixed).altdWf = false := by decide
theorem test_wf_ioi_and_ioe : (⟨[.ioi, .ioe], .cpl⟩ : Prefixed).ioWf = false := by decide
theorem test_wf_lcall_target : (Instr.lcallxmn 0x05 0xDFFF).wf = false := by decide
theorem test_wf_whole : (⟨[.ioi, .ioi], .cpl⟩ : Prefixed).wf = false := by decide
theorem test_wf_accepts : (⟨[.ioe, .altd], .lcallxmn 0x05 0xE000⟩ : Prefixed).wf = true := by decide

/-! ## Every row's word, from its `encoding` in `opcode_table.json`, decodes to the row

The operand bytes are `d` and `e` 85h, `n` 5Ah, `m` C3h, `x` 17h. -/

/-- Rows 1 to 48 of the opcode table. -/
def words0 : List (List Byte × Instr) :=
  [([0x8E], .adcAAtHL), ([0xDD, 0x8E, 0x85], .adcAAtIXd 0x85), ([0xFD, 0x8E, 0x85], .adcAAtIYd 0x85),
   ([0xCE, 0x5A], .adcAn 0x5A), ([0x88], .adcAB), ([0x89], .adcAC), ([0x8A], .adcAD), ([0x8B], .adcAE),
   ([0x8C], .adcAH), ([0x8D], .adcAL), ([0x8F], .adcAA), ([0xED, 0x4A], .adcHLBC), ([0xED, 0x5A], .adcHLDE),
   ([0xED, 0x6A], .adcHLHL), ([0xED, 0x7A], .adcHLSP), ([0x86], .addAAtHL), ([0xDD, 0x86, 0x85], .addAAtIXd 0x85),
   ([0xFD, 0x86, 0x85], .addAAtIYd 0x85), ([0xC6, 0x5A], .addAn 0x5A), ([0x80], .addAB), ([0x81], .addAC),
   ([0x82], .addAD), ([0x83], .addAE), ([0x84], .addAH), ([0x85], .addAL), ([0x87], .addAA), ([0x09], .addHLBC),
   ([0x19], .addHLDE), ([0x29], .addHLHL), ([0x39], .addHLSP), ([0xDD, 0x09], .addIXBC), ([0xDD, 0x19], .addIXDE),
   ([0xDD, 0x29], .addIXIX), ([0xDD, 0x39], .addIXSP), ([0xFD, 0x09], .addIYBC), ([0xFD, 0x19], .addIYDE),
   ([0xFD, 0x29], .addIYIY), ([0xFD, 0x39], .addIYSP), ([0x27, 0x85], .addSPd 0x85), ([0x76], .altd),
   ([0xA6], .andAtHL), ([0xDD, 0xA6, 0x85], .andAtIXd 0x85), ([0xFD, 0xA6, 0x85], .andAtIYd 0x85),
   ([0xDC], .andHLDE), ([0xDD, 0xDC], .andIXDE), ([0xFD, 0xDC], .andIYDE), ([0xE6, 0x5A], .andn 0x5A),
   ([0xA0], .andB)]

theorem test_words0 : words0.map (fun p => readRow p.1) = words0.map (fun p => RowResult.row p.2 []) := rfl

/-- Rows 49 to 96 of the opcode table. -/
def words1 : List (List Byte × Instr) :=
  [([0xA1], .andC), ([0xA2], .andD), ([0xA3], .andE), ([0xA4], .andH), ([0xA5], .andL), ([0xA7], .andA),
   ([0xCB, 0x46], .bit0AtHL), ([0xCB, 0x4E], .bit1AtHL), ([0xCB, 0x56], .bit2AtHL), ([0xCB, 0x5E], .bit3AtHL),
   ([0xCB, 0x66], .bit4AtHL), ([0xCB, 0x6E], .bit5AtHL), ([0xCB, 0x76], .bit6AtHL), ([0xCB, 0x7E], .bit7AtHL),
   ([0xDD, 0xCB, 0x85, 0x46], .bit0AtIXd 0x85), ([0xDD, 0xCB, 0x85, 0x4E], .bit1AtIXd 0x85),
   ([0xDD, 0xCB, 0x85, 0x56], .bit2AtIXd 0x85), ([0xDD, 0xCB, 0x85, 0x5E], .bit3AtIXd 0x85),
   ([0xDD, 0xCB, 0x85, 0x66], .bit4AtIXd 0x85), ([0xDD, 0xCB, 0x85, 0x6E], .bit5AtIXd 0x85),
   ([0xDD, 0xCB, 0x85, 0x76], .bit6AtIXd 0x85), ([0xDD, 0xCB, 0x85, 0x7E], .bit7AtIXd 0x85),
   ([0xFD, 0xCB, 0x85, 0x46], .bit0AtIYd 0x85), ([0xFD, 0xCB, 0x85, 0x4E], .bit1AtIYd 0x85),
   ([0xFD, 0xCB, 0x85, 0x56], .bit2AtIYd 0x85), ([0xFD, 0xCB, 0x85, 0x5E], .bit3AtIYd 0x85),
   ([0xFD, 0xCB, 0x85, 0x66], .bit4AtIYd 0x85), ([0xFD, 0xCB, 0x85, 0x6E], .bit5AtIYd 0x85),
   ([0xFD, 0xCB, 0x85, 0x76], .bit6AtIYd 0x85), ([0xFD, 0xCB, 0x85, 0x7E], .bit7AtIYd 0x85), ([0xCB, 0x40], .bit0B),
   ([0xCB, 0x41], .bit0C), ([0xCB, 0x42], .bit0D), ([0xCB, 0x43], .bit0E), ([0xCB, 0x44], .bit0H),
   ([0xCB, 0x45], .bit0L), ([0xCB, 0x47], .bit0A), ([0xCB, 0x48], .bit1B), ([0xCB, 0x49], .bit1C),
   ([0xCB, 0x4A], .bit1D), ([0xCB, 0x4B], .bit1E), ([0xCB, 0x4C], .bit1H), ([0xCB, 0x4D], .bit1L),
   ([0xCB, 0x4F], .bit1A), ([0xCB, 0x50], .bit2B), ([0xCB, 0x51], .bit2C), ([0xCB, 0x52], .bit2D),
   ([0xCB, 0x53], .bit2E)]

theorem test_words1 : words1.map (fun p => readRow p.1) = words1.map (fun p => RowResult.row p.2 []) := rfl

/-- Rows 97 to 144 of the opcode table. -/
def words2 : List (List Byte × Instr) :=
  [([0xCB, 0x54], .bit2H), ([0xCB, 0x55], .bit2L), ([0xCB, 0x57], .bit2A), ([0xCB, 0x58], .bit3B),
   ([0xCB, 0x59], .bit3C), ([0xCB, 0x5A], .bit3D), ([0xCB, 0x5B], .bit3E), ([0xCB, 0x5C], .bit3H),
   ([0xCB, 0x5D], .bit3L), ([0xCB, 0x5F], .bit3A), ([0xCB, 0x60], .bit4B), ([0xCB, 0x61], .bit4C),
   ([0xCB, 0x62], .bit4D), ([0xCB, 0x63], .bit4E), ([0xCB, 0x64], .bit4H), ([0xCB, 0x65], .bit4L),
   ([0xCB, 0x67], .bit4A), ([0xCB, 0x68], .bit5B), ([0xCB, 0x69], .bit5C), ([0xCB, 0x6A], .bit5D),
   ([0xCB, 0x6B], .bit5E), ([0xCB, 0x6C], .bit5H), ([0xCB, 0x6D], .bit5L), ([0xCB, 0x6F], .bit5A),
   ([0xCB, 0x70], .bit6B), ([0xCB, 0x71], .bit6C), ([0xCB, 0x72], .bit6D), ([0xCB, 0x73], .bit6E),
   ([0xCB, 0x74], .bit6H), ([0xCB, 0x75], .bit6L), ([0xCB, 0x77], .bit6A), ([0xCB, 0x78], .bit7B),
   ([0xCB, 0x79], .bit7C), ([0xCB, 0x7A], .bit7D), ([0xCB, 0x7B], .bit7E), ([0xCB, 0x7C], .bit7H),
   ([0xCB, 0x7D], .bit7L), ([0xCB, 0x7F], .bit7A), ([0xCC], .boolHL), ([0xDD, 0xCC], .boolIX),
   ([0xFD, 0xCC], .boolIY), ([0xCD, 0x5A, 0xC3], .callmn 0xC35A), ([0x3F], .ccf), ([0xBE], .cpAtHL),
   ([0xDD, 0xBE, 0x85], .cpAtIXd 0x85), ([0xFD, 0xBE, 0x85], .cpAtIYd 0x85), ([0xFE, 0x5A], .cpn 0x5A),
   ([0xB8], .cpB)]

theorem test_words2 : words2.map (fun p => readRow p.1) = words2.map (fun p => RowResult.row p.2 []) := rfl

/-- Rows 145 to 192 of the opcode table. -/
def words3 : List (List Byte × Instr) :=
  [([0xB9], .cpC), ([0xBA], .cpD), ([0xBB], .cpE), ([0xBC], .cpH), ([0xBD], .cpL), ([0xBF], .cpA), ([0x2F], .cpl),
   ([0x35], .decAtHL), ([0xDD, 0x35, 0x85], .decAtIXd 0x85), ([0xFD, 0x35, 0x85], .decAtIYd 0x85),
   ([0xDD, 0x2B], .decIX), ([0xFD, 0x2B], .decIY), ([0x05], .decB), ([0x0D], .decC), ([0x15], .decD),
   ([0x1D], .decE), ([0x25], .decH), ([0x2D], .decL), ([0x3D], .decA), ([0x0B], .decBC), ([0x1B], .decDE),
   ([0x2B], .decHL), ([0x3B], .decSP), ([0x10, 0x85], .djnze 0x85), ([0xED, 0x54], .exAtSPHL),
   ([0xDD, 0xE3], .exAtSPIX), ([0xFD, 0xE3], .exAtSPIY), ([0x08], .exAFAFalt), ([0xEB], .exDEHL),
   ([0xE3], .exDEaltHL), ([0xD9], .exx), ([0x34], .incAtHL), ([0xDD, 0x34, 0x85], .incAtIXd 0x85),
   ([0xFD, 0x34, 0x85], .incAtIYd 0x85), ([0xDD, 0x23], .incIX), ([0xFD, 0x23], .incIY), ([0x04], .incB),
   ([0x0C], .incC), ([0x14], .incD), ([0x1C], .incE), ([0x24], .incH), ([0x2C], .incL), ([0x3C], .incA),
   ([0x03], .incBC), ([0x13], .incDE), ([0x23], .incHL), ([0x33], .incSP), ([0xDB], .ioe)]

theorem test_words3 : words3.map (fun p => readRow p.1) = words3.map (fun p => RowResult.row p.2 []) := rfl

/-- Rows 193 to 240 of the opcode table. -/
def words4 : List (List Byte × Instr) :=
  [([0xD3], .ioi), ([0xED, 0x46], .ipset0), ([0xED, 0x56], .ipset1), ([0xED, 0x4E], .ipset2),
   ([0xED, 0x5E], .ipset3), ([0xED, 0x5D], .ipres), ([0xE9], .jpAtHL), ([0xDD, 0xE9], .jpAtIX),
   ([0xFD, 0xE9], .jpAtIY), ([0xC3, 0x5A, 0xC3], .jpmn 0xC35A), ([0xC2, 0x5A, 0xC3], .jpNZmn 0xC35A),
   ([0xCA, 0x5A, 0xC3], .jpZmn 0xC35A), ([0xD2, 0x5A, 0xC3], .jpNCmn 0xC35A), ([0xDA, 0x5A, 0xC3], .jpCmn 0xC35A),
   ([0xE2, 0x5A, 0xC3], .jpLZmn 0xC35A), ([0xEA, 0x5A, 0xC3], .jpLOmn 0xC35A), ([0xF2, 0x5A, 0xC3], .jpPmn 0xC35A),
   ([0xFA, 0x5A, 0xC3], .jpMmn 0xC35A), ([0x20, 0x85], .jrNZe 0x85), ([0x28, 0x85], .jrZe 0x85),
   ([0x30, 0x85], .jrNCe 0x85), ([0x38, 0x85], .jrCe 0x85), ([0x18, 0x85], .jre 0x85),
   ([0xCF, 0x5A, 0xC3, 0x17], .lcallxmn 0x17 0xC35A), ([0x02], .ldAtBCA), ([0x12], .ldAtDEA),
   ([0x36, 0x5A], .ldAtHLn 0x5A), ([0x70], .ldAtHLB), ([0x71], .ldAtHLC), ([0x72], .ldAtHLD), ([0x73], .ldAtHLE),
   ([0x74], .ldAtHLH), ([0x75], .ldAtHLL), ([0x77], .ldAtHLA), ([0xDD, 0xF4, 0x85], .ldAtHLdHL 0x85),
   ([0xF4, 0x85], .ldAtIXdHL 0x85), ([0xDD, 0x36, 0x85, 0x5A], .ldAtIXdn 0x85 0x5A),
   ([0xDD, 0x70, 0x85], .ldAtIXdB 0x85), ([0xDD, 0x71, 0x85], .ldAtIXdC 0x85), ([0xDD, 0x72, 0x85], .ldAtIXdD 0x85),
   ([0xDD, 0x73, 0x85], .ldAtIXdE 0x85), ([0xDD, 0x74, 0x85], .ldAtIXdH 0x85), ([0xDD, 0x75, 0x85], .ldAtIXdL 0x85),
   ([0xDD, 0x77, 0x85], .ldAtIXdA 0x85), ([0xFD, 0xF4, 0x85], .ldAtIYdHL 0x85),
   ([0xFD, 0x36, 0x85, 0x5A], .ldAtIYdn 0x85 0x5A), ([0xFD, 0x70, 0x85], .ldAtIYdB 0x85),
   ([0xFD, 0x71, 0x85], .ldAtIYdC 0x85)]

theorem test_words4 : words4.map (fun p => readRow p.1) = words4.map (fun p => RowResult.row p.2 []) := rfl

/-- Rows 241 to 288 of the opcode table. -/
def words5 : List (List Byte × Instr) :=
  [([0xFD, 0x72, 0x85], .ldAtIYdD 0x85), ([0xFD, 0x73, 0x85], .ldAtIYdE 0x85), ([0xFD, 0x74, 0x85], .ldAtIYdH 0x85),
   ([0xFD, 0x75, 0x85], .ldAtIYdL 0x85), ([0xFD, 0x77, 0x85], .ldAtIYdA 0x85), ([0x32, 0x5A, 0xC3], .ldAtmnA 0xC35A),
   ([0x22, 0x5A, 0xC3], .ldAtmnHL 0xC35A), ([0xDD, 0x22, 0x5A, 0xC3], .ldAtmnIX 0xC35A),
   ([0xFD, 0x22, 0x5A, 0xC3], .ldAtmnIY 0xC35A), ([0xED, 0x43, 0x5A, 0xC3], .ldAtmnBC 0xC35A),
   ([0xED, 0x53, 0x5A, 0xC3], .ldAtmnDE 0xC35A), ([0xED, 0x63, 0x5A, 0xC3], .ldAtmnHLed 0xC35A),
   ([0xED, 0x73, 0x5A, 0xC3], .ldAtmnSP 0xC35A), ([0xD4, 0x5A], .ldAtSPnHL 0x5A),
   ([0xDD, 0xD4, 0x5A], .ldAtSPnIX 0x5A), ([0xFD, 0xD4, 0x5A], .ldAtSPnIY 0x5A), ([0x0A], .ldAAtBC),
   ([0x1A], .ldAAtDE), ([0x3A, 0x5A, 0xC3], .ldAAtmn 0xC35A), ([0xED, 0x57], .ldAEIR), ([0xED, 0x5F], .ldAIIR),
   ([0xED, 0x77], .ldAXPC), ([0xED, 0x4B, 0x5A, 0xC3], .ldBCAtmn 0xC35A),
   ([0xED, 0x5B, 0x5A, 0xC3], .ldDEAtmn 0xC35A), ([0xED, 0x7B, 0x5A, 0xC3], .ldSPAtmn 0xC35A),
   ([0x2A, 0x5A, 0xC3], .ldHLAtmn 0xC35A), ([0xED, 0x49], .ldBCaltBC), ([0xED, 0x59], .ldDEaltBC),
   ([0xED, 0x69], .ldHLaltBC), ([0xED, 0x41], .ldBCaltDE), ([0xED, 0x51], .ldDEaltDE), ([0xED, 0x61], .ldHLaltDE),
   ([0x01, 0x5A, 0xC3], .ldBCmn 0xC35A), ([0x11, 0x5A, 0xC3], .ldDEmn 0xC35A), ([0x21, 0x5A, 0xC3], .ldHLmn 0xC35A),
   ([0x31, 0x5A, 0xC3], .ldSPmn 0xC35A), ([0xED, 0x47], .ldEIRA), ([0xED, 0x4F], .ldIIRA),
   ([0xDD, 0xE4, 0x85], .ldHLAtHLd 0x85), ([0xE4, 0x85], .ldHLAtIXd 0x85), ([0xFD, 0xE4, 0x85], .ldHLAtIYd 0x85),
   ([0xC4, 0x5A], .ldHLAtSPn 0x5A), ([0xDD, 0x7C], .ldHLIX), ([0xFD, 0x7C], .ldHLIY),
   ([0xDD, 0x2A, 0x5A, 0xC3], .ldIXAtmn 0xC35A), ([0xDD, 0xC4, 0x5A], .ldIXAtSPn 0x5A), ([0xDD, 0x7D], .ldIXHL),
   ([0xDD, 0x21, 0x5A, 0xC3], .ldIXmn 0xC35A)]

theorem test_words5 : words5.map (fun p => readRow p.1) = words5.map (fun p => RowResult.row p.2 []) := rfl

/-- Rows 289 to 336 of the opcode table. -/
def words6 : List (List Byte × Instr) :=
  [([0xFD, 0x7D], .ldIYHL), ([0xFD, 0x21, 0x5A, 0xC3], .ldIYmn 0xC35A), ([0xFD, 0x2A, 0x5A, 0xC3], .ldIYAtmn 0xC35A),
   ([0xFD, 0xC4, 0x5A], .ldIYAtSPn 0x5A), ([0x46], .ldBAtHL), ([0x4E], .ldCAtHL), ([0x56], .ldDAtHL),
   ([0x5E], .ldEAtHL), ([0x66], .ldHAtHL), ([0x6E], .ldLAtHL), ([0x7E], .ldAAtHL),
   ([0xDD, 0x46, 0x85], .ldBAtIXd 0x85), ([0xDD, 0x4E, 0x85], .ldCAtIXd 0x85), ([0xDD, 0x56, 0x85], .ldDAtIXd 0x85),
   ([0xDD, 0x5E, 0x85], .ldEAtIXd 0x85), ([0xDD, 0x66, 0x85], .ldHAtIXd 0x85), ([0xDD, 0x6E, 0x85], .ldLAtIXd 0x85),
   ([0xDD, 0x7E, 0x85], .ldAAtIXd 0x85), ([0xFD, 0x46, 0x85], .ldBAtIYd 0x85), ([0xFD, 0x4E, 0x85], .ldCAtIYd 0x85),
   ([0xFD, 0x56, 0x85], .ldDAtIYd 0x85), ([0xFD, 0x5E, 0x85], .ldEAtIYd 0x85), ([0xFD, 0x66, 0x85], .ldHAtIYd 0x85),
   ([0xFD, 0x6E, 0x85], .ldLAtIYd 0x85), ([0xFD, 0x7E, 0x85], .ldAAtIYd 0x85), ([0x06, 0x5A], .ldBn 0x5A),
   ([0x0E, 0x5A], .ldCn 0x5A), ([0x16, 0x5A], .ldDn 0x5A), ([0x1E, 0x5A], .ldEn 0x5A), ([0x26, 0x5A], .ldHn 0x5A),
   ([0x2E, 0x5A], .ldLn 0x5A), ([0x3E, 0x5A], .ldAn 0x5A), ([0x40], .ldBB), ([0x41], .ldBC), ([0x42], .ldBD),
   ([0x43], .ldBE), ([0x44], .ldBH), ([0x45], .ldBL), ([0x47], .ldBA), ([0x48], .ldCB), ([0x49], .ldCC),
   ([0x4A], .ldCD), ([0x4B], .ldCE), ([0x4C], .ldCH), ([0x4D], .ldCL), ([0x4F], .ldCA), ([0x50], .ldDB),
   ([0x51], .ldDC)]

theorem test_words6 : words6.map (fun p => readRow p.1) = words6.map (fun p => RowResult.row p.2 []) := rfl

/-- Rows 337 to 377 of the opcode table. -/
def words7 : List (List Byte × Instr) :=
  [([0x52], .ldDD), ([0x53], .ldDE), ([0x54], .ldDH), ([0x55], .ldDL), ([0x57], .ldDA), ([0x58], .ldEB),
   ([0x59], .ldEC), ([0x5A], .ldED), ([0x5B], .ldEE), ([0x5C], .ldEH), ([0x5D], .ldEL), ([0x5F], .ldEA),
   ([0x60], .ldHB), ([0x61], .ldHC), ([0x62], .ldHD), ([0x63], .ldHE), ([0x64], .ldHH), ([0x65], .ldHL),
   ([0x67], .ldHA), ([0x68], .ldLB), ([0x69], .ldLC), ([0x6A], .ldLD), ([0x6B], .ldLE), ([0x6C], .ldLH),
   ([0x6D], .ldLL), ([0x6F], .ldLA), ([0x78], .ldAB), ([0x79], .ldAC), ([0x7A], .ldAD), ([0x7B], .ldAE),
   ([0x7C], .ldAH), ([0x7D], .ldAL), ([0x7F], .ldAA), ([0xF9], .ldSPHL), ([0xDD, 0xF9], .ldSPIX),
   ([0xFD, 0xF9], .ldSPIY), ([0xED, 0x67], .ldXPCA), ([0xED, 0xA8], .ldd), ([0xED, 0xB8], .lddr),
   ([0xED, 0xA0], .ldi), ([0xED, 0xB0], .ldir)]

theorem test_words7 : words7.map (fun p => readRow p.1) = words7.map (fun p => RowResult.row p.2 []) := rfl

/-- The host's numbering, first byte most significant, as the table's `match` has it (log 24). -/
theorem test_table_word_ldIXmn : decodeTableWord 32 0xDD21C35A = some (.ldIXmn 0x5AC3) := by decide

/-- The same row with its first byte in bits 7 to 0. -/
theorem test_table_word_low_first : decodeTableWord 16 0x46ED = some .ipset0 := by decide

theorem test_table_word_not_in_source : decodeTableWord 8 0x00 = none := by decide

/-! ## One-step vectors -/

/-- Set a byte register of the main bank. -/
def r8 (r : Reg8) (v : Byte) (c : Cpu) : Cpu := { c with main := setReg c.main r v }

/-- Set a pair of the main bank. -/
def r16 (q : Pair) (v : Word) (c : Cpu) : Cpu := { c with main := setPair c.main q v }

/-- Set a pair of the alternate bank. -/
def a16 (q : Pair) (v : Word) (c : Cpu) : Cpu := { c with alt := setPair c.alt q v }

/-- Set the flags S, Z, L/V, C of the main bank. -/
def fl (s z lv c : Bool) (k : Cpu) : Cpu := { k with main := { k.main with f := { k.main.f with s, z, lv, c } } }

/-- Set SP. -/
def rsp (v : Word) (c : Cpu) : Cpu := { c with sp := v }

/-- Set IX. -/
def rix (v : Word) (c : Cpu) : Cpu := { c with ix := v }

/-- Set IY. -/
def riy (v : Word) (c : Cpu) : Cpu := { c with iy := v }

/-- Set IP. -/
def rip (v : Byte) (c : Cpu) : Cpu := { c with ip := v }

/-- A machine with code at `org`, data bytes, and registers as set. -/
def machine (org : Addr) (code : List Byte) (data : List (Addr × Byte)) (regs : List (Cpu → Cpu)) : State :=
  placeBytes code org (data.foldl (fun s x => s.load x.1 x.2) { State.reset with
    cpu := regs.foldl (fun c f => f c) { Cpu.reset with pc := org }, pc0 := org })

/-- The vectors' place of the instruction. -/
def at100 (code : List Byte) (data : List (Addr × Byte)) (regs : List (Cpu → Cpu)) : State := machine 0x0100 code data regs

/-- Does a step answer a next state of which the check holds? -/
def after (s : State) (check : State → Bool) : Bool :=
  match step s with
  | .next t => check t
  | .fault _ => false
  | .refused _ => false

/-- Do two steps? -/
def after2 (s : State) (check : State → Bool) : Bool := after s fun t => after t check

/-- Is a step refused for this reason? -/
def refusedFor (s : State) (r : Refusal) : Bool :=
  match step s with
  | .next _ => false
  | .fault _ => false
  | .refused q => q == r

/-- Are the four flags these? -/
def flags (k : Bank) (s z lv c : Bool) : Bool := k.f.s == s && k.f.z == z && k.f.lv == lv && k.f.c == c

theorem test_S1_altd_add_hl_de :
    after (at100 [0x76, 0x19] [] [r16 .hl 0x1000, r16 .de 0x0234, fl true true true true]) (fun t => hl t.cpu.alt == 0x1234 && hl t.cpu.main == 0x1000 && flags t.cpu.main true true true true && flags t.cpu.alt false false false false && t.cpu.pc == 0x0102) = true := by decide
theorem test_S3_and_hl :
    after (at100 [0xA6] [(0x8000, 0xD5)] [r8 .a 0xBC, r16 .hl 0x8000]) (fun t => t.cpu.main.a == 0x94 && flags t.cpu.main true false true false) = true := by decide
theorem test_S4_cpl :
    after (at100 [0x2F] [] [r8 .a 0xC5, fl true true true true]) (fun t => t.cpu.main.a == 0x3A && flags t.cpu.main true true true true) = true := by decide
theorem test_S5_ioi_store :
    after (at100 [0xD3, 0x32, 0x30, 0x00] [] [r8 .a 0x5A]) (fun t => t.ioTrace == [.write .ioi 0x0030 0x5A] && t.ioBug == some .ioi && t.peek 0x0030 == none && t.cpu.pc == 0x0104) = true := by decide
theorem test_S7_ipres :
    after (at100 [0xED, 0x5D] [] [rip 0x06]) (fun t => t.cpu.ip == 0x81) = true := by decide
theorem test_ADD1 :
    after (at100 [0x80] [] [r8 .a 0x7F, r8 .b 0x01]) (fun t => t.cpu.main.a == 0x80 && flags t.cpu.main true false true false) = true := by decide
theorem test_ADD3 :
    after (at100 [0x87] [] [r8 .a 0x80]) (fun t => t.cpu.main.a == 0x00 && flags t.cpu.main false true true true) = true := by decide
theorem test_ADD6_negative_d :
    after (at100 [0xDD, 0x86, 0xFE] [(0x8000, 0x02)] [r8 .a 0x01, rix 0x8002]) (fun t => t.cpu.main.a == 0x03 && flags t.cpu.main false false false false) = true := by decide
theorem test_ADC2 :
    after (at100 [0xCE, 0xFF] [] [r8 .a 0xFF, fl false false false true]) (fun t => t.cpu.main.a == 0xFF && flags t.cpu.main true false false true) = true := by decide
theorem test_ADC5_altd :
    after (at100 [0x76, 0x88] [] [r8 .a 0x01, r8 .b 0x01, fl false true false true]) (fun t => t.cpu.alt.a == 0x03 && t.cpu.main.a == 0x01 && flags t.cpu.alt false false false false && flags t.cpu.main false true false true) = true := by decide
theorem test_ADCW1 :
    after (at100 [0xED, 0x5A] [] [r16 .hl 0x7FFF, r16 .de 0x0000, fl false false false true]) (fun t => hl t.cpu.main == 0x8000 && flags t.cpu.main true false true false) = true := by decide
theorem test_ADCW4 :
    after (at100 [0xED, 0x7A] [] [r16 .hl 0x1234, rsp 0x1111, fl false false false true]) (fun t => hl t.cpu.main == 0x2346 && flags t.cpu.main false false false false) = true := by decide
theorem test_ADDW2_z_kept :
    after (at100 [0x09] [] [r16 .hl 0xFFFF, r16 .bc 0x0001, fl true false true false]) (fun t => hl t.cpu.main == 0x0000 && flags t.cpu.main true false true true) = true := by decide
theorem test_ADDW5 :
    after (at100 [0xFD, 0x39] [] [riy 0x7FFF, rsp 0x0001, fl false true false true]) (fun t => t.cpu.iy == 0x8000 && flags t.cpu.main false true false false) = true := by decide
theorem test_ADDW6_altd :
    after (at100 [0x76, 0xDD, 0x19] [] [rix 0x0001, r16 .de 0x0001, fl true true true true]) (fun t => t.cpu.ix == 0x0002 && flags t.cpu.alt false false false false && flags t.cpu.main true true true true) = true := by decide
theorem test_ADDSP2 :
    after (at100 [0x27, 0xFE] [] [rsp 0x9000]) (fun t => t.cpu.sp == 0x8FFE && flags t.cpu.main false false false true) = true := by decide
theorem test_ADDSP4 :
    after (at100 [0x27, 0x80] [] [rsp 0x0001]) (fun t => t.cpu.sp == 0xFF81 && flags t.cpu.main false false false false) = true := by decide
theorem test_AND4 :
    after (at100 [0xE6, 0x10] [] [r8 .a 0x1F]) (fun t => t.cpu.main.a == 0x10 && flags t.cpu.main false false true false) = true := by decide
theorem test_AND7 :
    after (at100 [0xDC] [] [r16 .hl 0x1234, r16 .de 0xEDCB]) (fun t => hl t.cpu.main == 0x0000 && flags t.cpu.main false true false false) = true := by decide
theorem test_AND9 :
    after (at100 [0xFD, 0xDC] [] [riy 0x1000, r16 .de 0x1FFF]) (fun t => t.cpu.iy == 0x1000 && flags t.cpu.main false false true false) = true := by decide
theorem test_BIT3 :
    after (at100 [0xCB, 0x76] [(0x8000, 0x40)] [r16 .hl 0x8000, fl true true true true]) (fun t => flags t.cpu.main true false true true && t.peek 0x8000 == some 0x40) = true := by decide
theorem test_BIT5 :
    after (at100 [0xDD, 0xCB, 0x05, 0x46] [(0x8005, 0x01)] [rix 0x8000, fl false true false false]) (fun t => flags t.cpu.main false false false false && t.cpu.pc == 0x0104) = true := by decide
theorem test_BIT6_altd :
    after (at100 [0x76, 0xCB, 0x5F] [] [r8 .a 0x08, fl false true false false]) (fun t => flags t.cpu.alt false false false false && flags t.cpu.main false true false false) = true := by decide
theorem test_BOOL2 :
    after (at100 [0xCC] [] [r16 .hl 0x0000, fl true false true true]) (fun t => hl t.cpu.main == 0x0000 && flags t.cpu.main false true false false) = true := by decide
theorem test_BOOL3 :
    after (at100 [0xDD, 0xCC] [] [rix 0x8000]) (fun t => t.cpu.ix == 0x0001 && flags t.cpu.main false false false false) = true := by decide
theorem test_CCF3_altd :
    after (at100 [0x76, 0x3F] [] [fl false false false true, fun c => { c with alt := { c.alt with f := { c.alt.f with c := true } } }]) (fun t => flags t.cpu.alt false false false false && flags t.cpu.main false false false true) = true := by decide
theorem test_CP5 :
    after (at100 [0xB8] [] [r8 .a 0x00, r8 .b 0x81]) (fun t => t.cpu.main.a == 0x00 && flags t.cpu.main false false false true) = true := by decide
theorem test_CP6 :
    after (at100 [0xB8] [] [r8 .a 0x7F, r8 .b 0xFF]) (fun t => flags t.cpu.main true false true true) = true := by decide
theorem test_CP7 :
    after (at100 [0xFD, 0xBE, 0x03] [(0x8003, 0x01)] [r8 .a 0x00, riy 0x8000]) (fun t => flags t.cpu.main true false false true) = true := by decide
theorem test_CP8 :
    after (at100 [0xFE, 0xBE] [] [r8 .a 0xBE]) (fun t => flags t.cpu.main false true false false && t.cpu.pc == 0x0102) = true := by decide
theorem test_INC1 :
    after (at100 [0x3C] [] [r8 .a 0x7F, fl false false false true]) (fun t => t.cpu.main.a == 0x80 && flags t.cpu.main true false true true) = true := by decide
theorem test_INC4 :
    after (at100 [0xFD, 0x34, 0xFF] [(0x8000, 0xFF)] [riy 0x8001]) (fun t => t.peek 0x8000 == some 0x00 && flags t.cpu.main false true false false) = true := by decide
theorem test_INC6 :
    after (at100 [0x33] [] [rsp 0xFFFF, fl true false true false]) (fun t => t.cpu.sp == 0x0000 && flags t.cpu.main true false true false) = true := by decide
theorem test_INC8_altd :
    after (at100 [0x76, 0x34] [(0x8000, 0x7F)] [r16 .hl 0x8000]) (fun t => t.peek 0x8000 == some 0x80 && flags t.cpu.alt true false true false && flags t.cpu.main false false false false) = true := by decide
theorem test_DEC1 :
    after (at100 [0x05] [] [r8 .b 0x80]) (fun t => t.cpu.main.b == 0x7F && flags t.cpu.main false false true false) = true := by decide
theorem test_DEC5 :
    after (at100 [0xDD, 0x35, 0x7F] [(0x807F, 0x80)] [rix 0x8000]) (fun t => t.peek 0x807F == some 0x7F && flags t.cpu.main false false true false) = true := by decide
theorem test_DEC6 :
    after (at100 [0x0B] [] [r16 .bc 0x0000]) (fun t => bc t.cpu.main == 0xFFFF) = true := by decide
theorem test_DEC10_altd :
    after (at100 [0x76, 0x1B] [] [r16 .de 0x0001]) (fun t => de t.cpu.alt == 0x0000 && de t.cpu.main == 0x0001) = true := by decide
theorem test_DJNZ3 :
    after (at100 [0x10, 0xFC] [] [r8 .b 0x00]) (fun t => t.cpu.main.b == 0xFF && t.cpu.pc == 0x00FE) = true := by decide
theorem test_DJNZ5_altd :
    after (at100 [0x76, 0x10, 0x10] [] [r8 .b 0x02]) (fun t => t.cpu.alt.b == 0x01 && t.cpu.main.b == 0x02 && t.cpu.pc == 0x0113) = true := by decide
theorem test_DJNZ6_wraps :
    after (machine 0xFFFE [0x10, 0x80] [] [r8 .b 0x02]) (fun t => t.cpu.main.b == 0x01 && t.cpu.pc == 0xFF80) = true := by decide
theorem test_JR2 :
    after (at100 [0x18, 0x80] [] []) (fun t => t.cpu.pc == 0x0082) = true := by decide
theorem test_JR4 :
    after (at100 [0x28, 0x05] [] [fl false true false false]) (fun t => t.cpu.pc == 0x0107) = true := by decide
theorem test_JR8 :
    after (at100 [0x30, 0x10] [] [fl false false false true]) (fun t => t.cpu.pc == 0x0102) = true := by decide
theorem test_JP1 :
    after (at100 [0xC3, 0x34, 0x12] [] []) (fun t => t.cpu.pc == 0x1234) = true := by decide
theorem test_JP2 :
    after (at100 [0xE9] [] [r16 .hl 0xABCD]) (fun t => t.cpu.pc == 0xABCD) = true := by decide
theorem test_JP5 :
    after (at100 [0xEA, 0x00, 0x20] [] [fl false false true false]) (fun t => t.cpu.pc == 0x2000) = true := by decide
theorem test_JP8 :
    after (at100 [0xF2, 0x00, 0x20] [] [fl true false false false]) (fun t => t.cpu.pc == 0x0103) = true := by decide
theorem test_CALL1 :
    after (machine 0x000C [0xCD, 0x11, 0x00] [] [rsp 0x9000]) (fun t => t.peek 0x8FFF == some 0x00 && t.peek 0x8FFE == some 0x0F && t.cpu.sp == 0x8FFE && t.cpu.pc == 0x0011) = true := by decide
theorem test_CALL2_wraps :
    after (at100 [0xCD, 0x00, 0x20] [] [rsp 0x0001]) (fun t => t.peek 0x0000 == some 0x01 && t.peek 0xFFFF == some 0x03 && t.cpu.sp == 0xFFFF && t.cpu.pc == 0x2000) = true := by decide
theorem test_LCALL :
    after (machine 0x1000 [0xCF, 0x00, 0xE0, 0x05] [] [rsp 0xD000, fun c => { c with xpc := 0x02 }]) (fun t => t.peek 0xCFFF == some 0x02 && t.peek 0xCFFE == some 0x10 && t.peek 0xCFFD == some 0x04 && t.cpu.sp == 0xCFFD && t.cpu.xpc == 0x05 && t.cpu.pc == 0xE000) = true := by decide
theorem test_LCALL2 : refusedFor (at100 [0xCF, 0x00, 0x80, 0x05] [] []) (.lcallTarget 0x8000) = true := by decide
theorem test_EX1 :
    after (at100 [0xED, 0x54] [(0x8FFE, 0x34), (0x8FFF, 0x12)] [rsp 0x8FFE, r16 .hl 0xABCD]) (fun t => hl t.cpu.main == 0x1234 && t.peek 0x8FFE == some 0xCD && t.peek 0x8FFF == some 0xAB && t.cpu.sp == 0x8FFE) = true := by decide
theorem test_EX2_altd :
    after (at100 [0x76, 0xED, 0x54] [(0x8FFE, 0x34), (0x8FFF, 0x12)] [rsp 0x8FFE, r16 .hl 0xABCD]) (fun t => hl t.cpu.alt == 0x1234 && hl t.cpu.main == 0xABCD && t.peek 0x8FFE == some 0xCD) = true := by decide
theorem test_EX3_wraps :
    after (at100 [0xDD, 0xE3] [(0xFFFF, 0x11), (0x0000, 0x22)] [rsp 0xFFFF, rix 0x3344]) (fun t => t.cpu.ix == 0x2211 && t.peek 0xFFFF == some 0x44 && t.peek 0x0000 == some 0x33) = true := by decide
theorem test_EX4 :
    after (at100 [0x08] [] [r8 .a 0x01, fl true false false true, fun c => { c with alt := { c.alt with a := 0x02, f := { c.alt.f with z := true } } }]) (fun t => t.cpu.main.a == 0x02 && flags t.cpu.main false true false false && t.cpu.alt.a == 0x01 && flags t.cpu.alt true false false true) = true := by decide
theorem test_EX6_altd :
    after (at100 [0x76, 0xEB] [] [r16 .de 0x1111, r16 .hl 0x2222, a16 .hl 0x3333]) (fun t => de t.cpu.main == 0x3333 && hl t.cpu.alt == 0x1111 && hl t.cpu.main == 0x2222) = true := by decide
theorem test_EX7 :
    after (at100 [0xE3] [] [r16 .de 0x1111, r16 .hl 0x2222, a16 .de 0x4444]) (fun t => de t.cpu.alt == 0x2222 && hl t.cpu.main == 0x4444 && de t.cpu.main == 0x1111) = true := by decide
theorem test_EX9 :
    after (at100 [0xD9] [] [r16 .bc 0x0001, r16 .de 0x0002, r16 .hl 0x0003, r8 .a 0x77, a16 .bc 0x0004, a16 .de 0x0005, a16 .hl 0x0006]) (fun t => bc t.cpu.main == 0x0004 && de t.cpu.main == 0x0005 && hl t.cpu.main == 0x0006 && bc t.cpu.alt == 0x0001 && hl t.cpu.alt == 0x0003 && t.cpu.main.a == 0x77) = true := by decide
theorem test_IO5 :
    after (at100 [0xDB, 0xF4, 0x04] [] [rix 0xA000, r16 .hl 0x1234]) (fun t => t.ioTrace == [.write .ioe 0xA004 0x34, .write .ioe 0xA005 0x12]) = true := by decide
theorem test_IO6 :
    after (at100 [0xD3, 0xC4, 0x00] [(0x8FFE, 0x0F), (0x8FFF, 0x00)] [rsp 0x8FFE]) (fun t => hl t.cpu.main == 0x000F && t.ioBug == some .ioi && t.ioTrace == []) = true := by decide
theorem test_IO7_bug :
    after2 (at100 [0xD3, 0x32, 0x30, 0x00, 0x77] [(0x8000, 0x00)] [r8 .a 0x5A, r16 .hl 0x8000]) (fun t => t.ioTrace == [.write .ioi 0x0030 0x5A, .write .ioi 0x8000 0x5A] && t.peek 0x8000 == some 0x00 && t.ioBug == none) = true := by decide
theorem test_IO10 :
    after2 (at100 [0xD3, 0x32, 0x30, 0x00, 0x36, 0x01] [] [r16 .hl 0x8000]) (fun t => t.peek 0x8000 == some 0x01 && t.ioBug == none) = true := by decide
theorem test_IO12 :
    after (at100 [0xD3, 0x3C] [] [r8 .a 0x01]) (fun t => t.cpu.main.a == 0x02 && t.ioTrace == [] && t.ioBug == some .ioi) = true := by decide
theorem test_IO4_two_ioi : refusedFor (at100 [0xD3, 0xD3, 0x7E] [] []) .badPrefixes = true := by decide
theorem test_IO4_mixed : refusedFor (at100 [0xD3, 0xDB, 0x7E] [] []) .badPrefixes = true := by decide
theorem test_IP4 :
    after (at100 [0xED, 0x5E] [] [rip 0x48]) (fun t => t.cpu.ip == 0x23) = true := by decide
theorem test_IP2 :
    after (at100 [0xED, 0x56] [] [rip 0x00]) (fun t => t.cpu.ip == 0x01) = true := by decide
theorem test_ST4 :
    after (at100 [0x74] [] [r16 .hl 0x8010]) (fun t => t.peek 0x8010 == some 0x80) = true := by decide
theorem test_ST5 :
    after (at100 [0xDD, 0xF4, 0x10] [] [r16 .hl 0x8000]) (fun t => t.peek 0x8010 == some 0x00 && t.peek 0x8011 == some 0x80) = true := by decide
theorem test_ST9_wraps :
    after (at100 [0xFD, 0xF4, 0x7F] [] [riy 0xFF80, r16 .hl 0xBEEF]) (fun t => t.peek 0xFFFF == some 0xEF && t.peek 0x0000 == some 0xBE) = true := by decide
theorem test_ST12 :
    after (at100 [0xED, 0x63, 0x00, 0x80] [] [r16 .hl 0x1234]) (fun t => t.peek 0x8000 == some 0x34 && t.peek 0x8001 == some 0x12 && t.cpu.pc == 0x0104) = true := by decide
theorem test_ST16_unsigned_n :
    after (at100 [0xD4, 0xFF] [] [rsp 0xFFFF, r16 .hl 0x1234]) (fun t => t.peek 0x00FE == some 0x34 && t.peek 0x00FF == some 0x12) = true := by decide
theorem test_ST17 :
    after (at100 [0xFD, 0xD4, 0x00] [] [rsp 0x8FFE, riy 0xA1B2]) (fun t => t.peek 0x8FFE == some 0xB2 && t.peek 0x8FFF == some 0xA1) = true := by decide
theorem test_LD3 :
    after (at100 [0xED, 0x57] [] [fun c => { c with eir := 0x80 }, fl false true true true]) (fun t => t.cpu.main.a == 0x80 && flags t.cpu.main true false true true) = true := by decide
theorem test_LD7 :
    after (at100 [0xED, 0x67] [] [r8 .a 0x05]) (fun t => t.cpu.xpc == 0x05) = true := by decide
theorem test_LD9 :
    after (at100 [0xED, 0x7B, 0x00, 0x80] [(0x8000, 0x00), (0x8001, 0x90)] []) (fun t => t.cpu.sp == 0x9000) = true := by decide
theorem test_LD11_altd :
    after (at100 [0x76, 0x2A, 0x00, 0x80] [(0x8000, 0x34), (0x8001, 0x12)] [r16 .hl 0x7777]) (fun t => hl t.cpu.alt == 0x1234 && hl t.cpu.main == 0x7777) = true := by decide
theorem test_LD12 :
    after (at100 [0xED, 0x59] [] [r16 .bc 0x1234]) (fun t => de t.cpu.alt == 0x1234) = true := by decide
theorem test_LD17 :
    after (at100 [0xDD, 0xE4, 0x02] [(0x8002, 0x00), (0x8003, 0x90)] [r16 .hl 0x8000]) (fun t => hl t.cpu.main == 0x9000) = true := by decide
theorem test_LD19 :
    after (at100 [0xFD, 0xE4, 0xFE] [(0x8000, 0x01), (0x8001, 0x02)] [riy 0x8002]) (fun t => hl t.cpu.main == 0x0201) = true := by decide
theorem test_LD27 :
    after (at100 [0x66] [(0x8000, 0x90)] [r16 .hl 0x8000]) (fun t => hl t.cpu.main == 0x9000) = true := by decide
theorem test_LD29 :
    after (at100 [0xFD, 0x6E, 0x80] [(0x8000, 0x33)] [riy 0x8080]) (fun t => t.cpu.main.l == 0x33) = true := by decide
theorem test_LD32_altd :
    after (at100 [0x76, 0x41] [] [r8 .c 0x09]) (fun t => t.cpu.alt.b == 0x09 && t.cpu.main.b == 0x00) = true := by decide
theorem test_BLK1 :
    after (at100 [0xED, 0xA0] [(0x8000, 0xAA)] [r16 .hl 0x8000, r16 .de 0x8100, r16 .bc 0x0002]) (fun t => t.peek 0x8100 == some 0xAA && hl t.cpu.main == 0x8001 && de t.cpu.main == 0x8101 && bc t.cpu.main == 0x0001 && flags t.cpu.main false false true false && t.cpu.pc == 0x0102) = true := by decide
theorem test_BLK3 :
    after (at100 [0xED, 0xA8] [(0x8002, 0x33)] [r16 .hl 0x8002, r16 .de 0x8102, r16 .bc 0x0000]) (fun t => t.peek 0x8102 == some 0x33 && hl t.cpu.main == 0x8001 && de t.cpu.main == 0x8101 && bc t.cpu.main == 0xFFFF && flags t.cpu.main false false true false) = true := by decide
theorem test_BLK4 :
    after (at100 [0xED, 0xB0] [(0x8000, 0x01)] [r16 .hl 0x8000, r16 .de 0x8100, r16 .bc 0x0003]) (fun t => bc t.cpu.main == 0x0002 && flags t.cpu.main false false true false && t.cpu.pc == 0x0100) = true := by decide
theorem test_BLK5 :
    after (at100 [0xED, 0xB0] [(0x8002, 0x03)] [r16 .hl 0x8002, r16 .de 0x8102, r16 .bc 0x0001, fl true false true true]) (fun t => bc t.cpu.main == 0x0000 && flags t.cpu.main true false false true && t.cpu.pc == 0x0102) = true := by decide
theorem test_BLK8_ioi :
    after (at100 [0xD3, 0xED, 0xB0] [(0x8000, 0x0A)] [r16 .hl 0x8000, r16 .de 0x0040, r16 .bc 0x0002]) (fun t => t.ioTrace == [.write .ioi 0x0040 0x0A] && t.cpu.pc == 0x0100 && t.ioBug == some .ioi) = true := by decide
theorem test_REF1 : refusedFor (at100 [0x00] [] []) .encodingNotInSource = true := by decide
theorem test_REF2 : refusedFor (at100 [0xED, 0x6B, 0x00, 0x80] [] []) .encodingNotInSource = true := by decide
theorem test_REF3 : refusedFor (at100 [0xCB, 0x86] [] []) .encodingNotInSource = true := by decide
theorem test_REF5 : refusedFor (at100 [0x76, 0x00] [] []) .encodingNotInSource = true := by decide

/-- S8: processor priority 1 refuses a request of priority 1; IPRES, privileged, does not ask. -/
theorem test_S8_not_accepted :
    after { at100 [0x2F] [] [rip 0x01] with intRequests := [[⟨.p1, 7⟩]] } (fun t =>
      t.cpu.pc == 0x0101 && t.intRequests == []) = true := by decide
theorem test_no_interrupt_after_ipres :
    after { at100 [0xED, 0x5D] [] [rip 0x00] with intRequests := [[⟨.p3, 7⟩]] } (fun t =>
      t.cpu.pc == 0x0102 && t.intRequests == [[⟨.p3, 7⟩]]) = true := by decide

/-- V-BLK9: the request is accepted between two iterations, with the first byte of the prefixed LDIR as the return
address. -/
theorem test_BLK9_interrupt :
    ∃ u, step { at100 [0xD3, 0xED, 0xB0] [(0x8000, 0x0A)] [rip 0x00, r16 .hl 0x8000, r16 .de 0x0040, r16 .bc 0x0003] with
        intRequests := [[⟨.p1, 7⟩]] } = .next (settle (takeInterrupt ⟨.p1, 7⟩ 0x0100 u)) ∧
      bc u.cpu.main = 0x0002 ∧ hl u.cpu.main = 0x8001 ∧ u.intRequests = [] := ⟨_, rfl, rfl, rfl, rfl⟩

/-- V-IO3: under both prefixes A' takes the byte of the internal I/O space, and A is kept. -/
theorem test_IO3 :
    ∃ t, step (at100 [0xD3, 0x76, 0x7E] [] [r16 .hl 0x0030, r8 .a 0x11]) = .next t ∧
      t.cpu.alt.a = Config.ioReadValue [] .ioi 0x0030 ∧ t.cpu.main.a = 0x11 ∧ t.cpu.pc = 0x0103 ∧
      t.ioTrace = [.read .ioi 0x0030 t.cpu.alt.a] := ⟨_, rfl, rfl, rfl, rfl, rfl⟩

/-- S6: the low byte comes from A002h, the high byte, after that event, from A003h. -/
theorem test_S6 :
    ∃ t, step (at100 [0xDB, 0xE4, 0x02] [] [rix 0xA000]) = .next t ∧
      t.cpu.main.l = Config.ioReadValue [] .ioe 0xA002 ∧
      t.cpu.pc = 0x0103 ∧ t.ioBug = some .ioe :=
  ⟨_, rfl, lo_word _ _, rfl, rfl⟩

/-- R83: a write to a cell that the launch memory admits no write to is discarded, and the program goes on (log 5). -/
theorem test_write_not_admitted :
    after { at100 [0x32, 0x00, 0x80] [(0x8000, 0x11)] [r8 .a 0x5A] with readOnly := [⟨0x8000, 0x8000⟩] } (fun t =>
      t.peek 0x8000 == some 0x11 && t.cpu.pc == 0x0103) = true := by decide

/-- A host's word is the first instruction after reset. -/
theorem test_withFetchWord : after (State.reset.withFetchWord 16 0x3E5A) (fun t => t.cpu.main.a == 0x5A) = true := by decide

/-- Reset memory lists nothing: a step faults at the first byte (log 3, log 25). -/
theorem test_reset_step : step State.reset = .fault (.unwrittenCell 0x0000) := by rfl

/-! ## Witnesses: the hypotheses of each statement can be met, clause by clause -/

/-- A machine whose memory holds 5Ah at 8000h, 34h 12h at 9000h, the words' wrap at FFFFh, and BIT's bytes. -/
def here (regs : List (Cpu → Cpu)) : State :=
  at100 [0x2F] [(0x8000, 0x5A), (0x8005, 0x01), (0x7F80, 0x80), (0x807F, 0x7F), (0x9000, 0x34), (0x9001, 0x12), (0xFFFF, 0xCD),
    (0x0000, 0xAB), (0x90FF, 0x77), (0x9100, 0x66)] regs

/-- The machine with HL, IX, IY, BC and DE at 8000h and SP at 9000h. -/
def there : State := here [r16 .hl 0x8000, r16 .bc 0x8000, r16 .de 0x8000, rix 0x8000, riy 0x8000, rsp 0x9000]

/-- The machine with a memory that admits no write to the cells 2000h to 2FFFh. -/
def flashed : State := { there with readOnly := [⟨0x2000, 0x2FFF⟩] }

theorem wit_DecodeReadsBackEveryEncoding :
    let p : Prefixed := ⟨[.altd, .ioe], .ldAAtHL⟩
    p.rowsWf = true ∧ p.altdWf = true ∧ p.ioWf = true := by decide

theorem wit_DecodeAcceptsOnlyEncodings :
    decode [0xDB, 0x76, 0x7E, 0xFF] = .instr ⟨[.ioe, .altd], .ldAAtHL⟩ [0xFF] := by decide

theorem wit_PrefixCombinationsRefused :
    let two (l : List Instr) : Prop := l.all Instr.isPfx = true ∧ (2 ≤ l.count .altd ∨ 2 ≤ l.countP Instr.isIoPfx)
    two [.altd, .altd] ∧ two [.ioi, .ioe] ∧ two [.ioe, .altd, .ioe] := by decide

/-- Each clause at its boundary bytes, alone and after prefixes. -/
theorem wit_UnlistedEncodingsRefused :
    let pfx : List Instr := [.altd, .ioe]
    let fetches (u : List Byte) : Prop :=
      (at100 u [] []).fetched = ([] : List Instr).flatMap encode ++ u ∧
      (at100 ([0x76, 0xDB] ++ u) [] []).fetched = pfx.flatMap encode ++ u
    pfx.all Instr.isPfx = true ∧ pfx.count .altd ≤ 1 ∧ pfx.countP Instr.isIoPfx ≤ 1 ∧
    0x00 ∈ emptyMainBytes ∧ 0x9F ∈ emptyMainBytes ∧ 0xFF ∈ emptyMainBytes ∧ fetches [0x00] ∧ fetches [0x9F] ∧
    fetches [0xFF] ∧ (0x3F : Byte).toNat < 0x40 ∧ 0x80 ≤ (0x80 : Byte).toNat ∧ fetches [0xCB, 0x3F] ∧
    fetches [0xCB, 0x80] ∧ 0x6B ∉ edBytes ∧ 0xB9 ∉ edBytes ∧ fetches [0xED, 0x6B, 0x00] ∧ fetches [0xED, 0xB9] ∧
    0x00 ∉ xyBytes ∧ 0x76 ∉ xyBytes ∧ fetches [0xDD, 0x00] ∧ fetches [0xFD, 0x76] ∧ 0x47 ∉ xyCbBytes ∧
    fetches [0xDD, 0xCB, 0x05, 0x47] ∧ fetches [0xFD, 0xCB, 0x05, 0x47] := by decide

/-- Fetching wraps from FFFFh to 0; six bytes are the most. -/
theorem wit_FetchReadsTheBytesAtPc :
    let s := machine 0xFFFD [1, 2, 3, 4, 5, 6] [] []
    let bs : List Byte := [1, 2, 3, 4, 5, 6]
    bs.length ≤ 6 ∧ ∀ (n : Fin bs.length), s.peek (s.cpu.pc + BitVec.ofNat 16 n) = some bs[n] := by decide

theorem wit_StepRunsTheDecodedInstruction :
    decode (at100 [0x76, 0xD3, 0x34] [] []).fetched = .instr ⟨[.altd, .ioi], .incAtHL⟩ [] := by decide

theorem wit_EndOfInstructionSetsTheLatch :
    let run (bs : List Byte) (p : Prefixed) (latch : Option IoSpace) : Prop :=
      let s := at100 bs [] []
      s.intRequests = [] ∧ decode s.fetched = .instr p [] ∧ after s (fun t => t.ioBug == latch) = true
    run [0xD3, 0x2F] ⟨[.ioi], .cpl⟩ (some .ioi) ∧ run [0xDB, 0x2F] ⟨[.ioe], .cpl⟩ (some .ioe) ∧ run [0x2F] ⟨[], .cpl⟩ none := by
  decide

/-- A state that meets the invariant and steps: for `EveryStepKeepsTheInvariant`, `OnlyInterruptEntryChangesTheMapping`. -/
theorem wit_step : Inv there ∧ ∃ t, step there = .next t :=
  ⟨⟨by decide, rfl, rfl, rfl⟩, _, rfl⟩

/-- The same with a request pending that is accepted. -/
theorem wit_step_interrupted :
    let s : State := { here [rip 0x00] with intRequests := [[⟨.p3, 7⟩]] }
    Inv s ∧ ∃ t, step s = .next t ∧ t.cpu = (Config.intEntry { s with
      cpu := { s.cpu with pc := 0x0101, main := { s.cpu.main with a := 0xFF } }, intRequests := [] } ⟨.p3, 7⟩ 0x0101).cpu :=
  ⟨⟨by decide, rfl, rfl, rfl⟩, _, rfl, rfl⟩

/-- The clauses on windows at the first and the last address they hold, just outside them, and under another XPC; and on
cells that admit no write, at the first and the last and just outside them. -/
theorem wit_MemoryReadAfterWrite :
    let w : MapWindow := ⟨some 0x05, 0xE000, 0xFFFF, 0x40000⟩
    let s (x : Byte) : State := { there with mapping := [w], cpu := { there.cpu with xpc := x } }
    let holds (x : Byte) (a : Addr) : Prop :=
      (w.xpc = none ∨ w.xpc = some (s x).cpu.xpc) ∧ w.first.toNat ≤ a.toNat ∧ a.toNat ≤ w.last.toNat
    let leaves (x : Byte) (a : Addr) : Prop :=
      (w.xpc ≠ none ∧ w.xpc ≠ some (s x).cpu.xpc) ∨ a.toNat < w.first.toNat ∨ w.last.toNat < a.toNat
    there.mapping = [] ∧ there.cell 0x8001 ≠ there.cell 0x8000 ∧ (s 5).mapping = [w] ∧
    holds 5 0xE000 ∧ holds 5 0xFFFF ∧ leaves 5 0xDFFF ∧ leaves 4 0xE000 ∧
    flashed.writable 0x1FFF = true ∧ flashed.writable 0x2000 = false ∧ flashed.writable 0x2FFF = false ∧
    flashed.writable 0x3000 = true := by decide

/-- At the wrap of a word around the address space. -/
theorem wit_StoredWordIsLoadedBack :
    there.io = none ∧ there.cell 0xFFFF ≠ there.cell (0xFFFF + 1) ∧ there.writable 0xFFFF = true ∧
    there.writable (0xFFFF + 1) = true := by decide

/-- CPL writes none of the registers, no flag, and no alternate register. -/
theorem wit_unwritten_registers :
    (∃ t, exec .cpl there = .next t) ∧ there.altd = false ∧ Instr.cpl.writesIp = false ∧ Instr.cpl.writesXpc = false ∧
    Instr.cpl ≠ .ldIIRA ∧ Instr.cpl ≠ .ldEIRA ∧ Instr.cpl.writesSp = false ∧ Instr.cpl.writesIx = false ∧
    Instr.cpl.writesIy = false ∧ Instr.cpl.writesFlags = false ∧ Instr.cpl ≠ .exAFAFalt ∧
    Instr.cpl.writesAlt = false :=
  ⟨⟨_, rfl⟩, rfl, rfl, rfl, by decide, by decide, rfl, rfl, rfl, rfl, by decide, rfl⟩

/-- A state in which the twelve have no meaning. -/
def meaningless : State := { there with altd := true, ioBug := some .ioe }

theorem wit_NoOtherStops :
    exec (.lcallxmn 0x05 0xDFFF) there = .refused (.lcallTarget 0xDFFF) ∧
    exec .ldAAtHL meaningless = .refused .altdAfterIo ∧
    exec (.ldAAtmn 0x4000) there = .fault (.unwrittenCell 0x4000) := ⟨rfl, rfl, rfl⟩

theorem wit_TwelveRefusedUnderAltdAndLatch : Instr.ldAAtHL.bugRow = true ∧ bugMeaningless meaningless := by
  simp [bugMeaningless, meaningless, Instr.bugRow]

/-- A byte at each kind of address, in memory and in an I/O space: for `AccumulatorWithMemory`, `BitTestsOfMemory`,
`StepMemory`, `ByteLoadsFromMemory`, `BlockMoves`. The displacements are -128, 0 and 127. -/
theorem wit_reads :
    ReadsAs there.io (atIndex there .ix 0x80) 0x80 there there ∧ ReadsAs there.io (atIndex there .iy 0x7F) 0x7F there there ∧
    ReadsAs there.io (atIndex there .ix 0x00) 0x5A there there ∧ ReadsAs there.io (hl there.cpu.main) 0x5A there there ∧
    ReadsAs there.io (bc there.cpu.main) 0x5A there there ∧ ReadsAs there.io (de there.cpu.main) 0x5A there there ∧
    ReadsAs there.io 0xFFFF 0xCD there there ∧ there.peek (hl there.cpu.main) = some 0x5A := by
  refine ⟨⟨?_, rfl⟩, ⟨?_, rfl⟩, ⟨?_, rfl⟩, ⟨?_, rfl⟩, ⟨?_, rfl⟩, ⟨?_, rfl⟩, ⟨?_, rfl⟩, ?_⟩ <;> decide

/-- The twelve: in memory with no latch, under ALTD too; in an I/O space with the latch. -/
theorem wit_reads_of_the_twelve :
    (¬ bugMeaningless there ∧ ReadsAs (bugSpaceOf there) (hl there.cpu.main) 0x5A there there) ∧
    (let s : State := { there with altd := true }
     ¬ bugMeaningless s ∧ ReadsAs (bugSpaceOf s) (hl s.cpu.main) 0x5A s s) ∧
    (let s : State := { there with ioBug := some .ioi }
     ¬ bugMeaningless s ∧ ∃ v t, ReadsAs (bugSpaceOf s) (hl s.cpu.main) v s t) := by
  refine ⟨⟨?_, by decide, rfl⟩, ⟨?_, by decide, rfl⟩, ?_, ?_⟩
  · rintro ⟨h, -⟩
    exact Bool.noConfusion (show false = true from h)
  · rintro ⟨-, h⟩
    exact h rfl
  · rintro ⟨h, -⟩
    exact Bool.noConfusion (show false = true from h)
  · exact ⟨_, _, rfl, rfl⟩

/-- A word at each kind of address, at the wrap and at the largest unsigned stack offset: for `WordLoadsFromMemory`,
`WordLoadsFromTheStack`, `ExchangeWithTheStack`. -/
theorem wit_word_reads :
    ReadsWordAs there.io 0xFFFF 0xABCD there there ∧ ReadsWordAs none there.cpu.sp 0x1234 there there ∧
    ReadsWordAs none (BitVec.ofNat 16 (there.cpu.sp.toNat + (0xFF : Byte).toNat)) 0x6677 there there ∧
    (let s := here [r16 .hl 0x9080, rix 0x9080, riy 0x8F81]
     ReadsWordAs s.io (hl s.cpu.main + (0x80 : Byte).signExtend 16) 0x1234 s s ∧
     ReadsWordAs s.io (atIndex s .ix 0x7F) 0x6677 s s ∧ ReadsWordAs s.io (atIndex s .iy 0x7F) 0x1234 s s) := by
  refine ⟨⟨0xCD, 0xAB, _, ⟨?_, rfl⟩, ⟨?_, rfl⟩, ?_⟩, ⟨0x34, 0x12, _, ⟨?_, rfl⟩, ⟨?_, rfl⟩, ?_⟩,
    ⟨0x77, 0x66, _, ⟨?_, rfl⟩, ⟨?_, rfl⟩, ?_⟩, ⟨0x34, 0x12, _, ⟨?_, rfl⟩, ⟨?_, rfl⟩, ?_⟩,
    ⟨0x77, 0x66, _, ⟨?_, rfl⟩, ⟨?_, rfl⟩, ?_⟩, ⟨0x34, 0x12, _, ⟨?_, rfl⟩, ⟨?_, rfl⟩, ?_⟩⟩ <;> decide

theorem wit_RelativeJumps : (here [r8 .b 1]).cpu.main.b = 1 ∧ (here [r8 .b 0]).cpu.main.b ≠ 1 := by decide

/-- Each condition holds of one of two flag registers and fails of the other. -/
theorem wit_ConditionalJumps :
    let f := (here [fl true true true true]).cpu.main.f
    let g := there.cpu.main.f
    (∀ q ∈ [Cond.z, .c, .lo, .m], condHolds f q = true ∧ condHolds g q = false) ∧
    (∀ q ∈ [Cond.nz, .nc, .lz, .p], condHolds g q = true ∧ condHolds f q = false) ∧
    (∀ q ∈ [CondJr.z, .c], condHolds f (ofJr q) = true ∧ condHolds g (ofJr q) = false) ∧
    (∀ q ∈ [CondJr.nz, .nc], condHolds g (ofJr q) = true ∧ condHolds f (ofJr q) = false) := by decide

/-- The stack wraps below 0: its two addresses are 0 and FFFFh. -/
theorem wit_CallLeavesTheReturnAddressOnTheStack :
    let s := here [rsp 0x0001]
    (∃ t, exec (.callmn 0x2000) s = .next t) ∧ s.cell (s.cpu.sp - 1) ≠ s.cell (s.cpu.sp - 2) ∧
    s.writable (s.cpu.sp - 1) = true ∧ s.writable (s.cpu.sp - 2) = true :=
  ⟨⟨_, rfl⟩, by decide⟩

theorem wit_LongCallPushesXpcAndReturnAddress :
    0xE000 ≤ (0xE000 : Addr).toNat ∧ 0xE000 ≤ (0xFFFF : Addr).toNat ∧ (0xDFFF : Addr).toNat < 0xE000 := by decide

theorem wit_ExchangeDeAndHl : there.altd = false ∧ meaningless.altd = true := by decide

/-- Nothing pending; a request at the processor priority, which is not accepted, and one above it, which is. -/
theorem wit_InterruptAcceptance :
    let s (l : List IntRequest) : State := { here [rip 0x02] with intRequests := [l, []] }
    privileged .cpl = false ∧ (s []).intRequests = [] :: [[]] ∧
    (s [⟨.p2, 1⟩]).intRequests = [⟨.p2, 1⟩] :: [[]] ∧ rank .p2 ≤ (s [⟨.p2, 1⟩]).cpu.ip.toNat % 4 ∧
    (s [⟨.p1, 1⟩, ⟨.p3, 2⟩]).intRequests = [⟨.p1, 1⟩, ⟨.p3, 2⟩] :: [[]] ∧
    (s [⟨.p1, 1⟩, ⟨.p3, 2⟩]).cpu.ip.toNat % 4 < rank .p3 := by decide

theorem wit_NoInterruptAfterAPrivilegedInstruction : privileged .ldSPIY = true := rfl

theorem wit_InterruptEntryClearsTheLatch : there.mem.wf ∧ there.mem ≠ [] := by decide

theorem wit_BlockMoves :
    there.peek (hl there.cpu.main) = some 0x5A ∧ bc there.cpu.main ≠ 1 ∧
    (let s := here [r16 .hl 0x8000, r16 .bc 0x0001]
     s.peek (hl s.cpu.main) = some 0x5A ∧ bc s.cpu.main = 1) := by decide

/-- A block move that fills memory from one byte on completes each of its iterations: each stores the byte the next one
reads. -/
theorem fill_completes {i : Instr} {dir : Word} (hi : ∀ u, exec i u = blockRepeat dir u) (n : Nat) :
    ∀ s : State, s.io = none → s.mapping = [] → s.readOnly = [] → s.peek (s.pair .hl) ≠ none → s.pair .de = s.pair .hl + dir →
      ∃ t, repeated i n s = .next t := by
  induction n with
  | zero => exact fun s _ _ _ _ _ => ⟨s, rfl⟩
  | succ n ih =>
    intro s hio hmap hro hsrc hde
    obtain ⟨v, hv⟩ := Option.ne_none_iff_exists'.mp hsrc
    have hone : ∃ u, moveOne dir s = .next u := by
      simp only [moveOne, memRead, hv, Access.bind]
      exact ⟨_, rfl⟩
    obtain ⟨u, hu⟩ := hone
    obtain ⟨w, -, hw⟩ := moveOne_next hu
    have half : ∀ x : Word, Machine.word (Machine.hi x) (Machine.lo x) = x := by
      intro x
      apply BitVec.eq_of_getLsbD_eq
      intro k hk
      rw [Machine.word, Machine.hi, Machine.lo, BitVec.getLsbD_append, BitVec.getLsbD_extractLsb',
        BitVec.getLsbD_extractLsb']
      by_cases h : k < 8
      · simp [h]
      · have h1 : 8 + (k - 8) = k := by omega
        have h2 : k - 8 < 8 := by omega
        simp [h, h1, h2]
    have hl' : u.pair .hl = s.pair .hl + dir := by
      rw [hw]
      exact half _
    have de' : u.pair .de = s.pair .de + dir := by
      rw [hw]
      exact half _
    have next : ∀ t : State, t.cpu.main = u.cpu.main → t.io = u.io → t.mapping = u.mapping → t.mem = u.mem →
        t.cpu.xpc = u.cpu.xpc → t.readOnly = u.readOnly → ∃ z, repeated i n t = .next z := by
      intro t h1 h2 h3 h4 h5 h6
      have p1 : t.pair .hl = u.pair .hl := by simp only [State.pair, h1]
      have p2 : t.pair .de = u.pair .de := by simp only [State.pair, h1]
      have um : u.mapping = [] := by
        rw [hw]
        simpa using hmap
      have ur : u.readOnly = [] := by
        rw [hw]
        simpa using hro
      refine ih t ?_ (h3.trans um) (h6.trans ur) ?_ (by rw [p1, p2, hl', de', hde])
      · rw [h2, hw]
        simpa using hio
      · have e : t.peek (t.pair .hl) = some w := by
          have hm : u.mem = s.mem.write (s.cell (s.pair .de)) w := by
            rw [hw, hio]
            exact if_pos (State.writable_of_none s _ hro)
          have hc : t.cell (t.pair .hl) = s.cell (s.pair .de) := by
            rw [State.cell, State.cell, h3, um, hmap, p1, hl', hde]
            rfl
          rw [State.peek, h4, hm, hc]
          exact Memory.read_write_same _ _ _
        rw [e]
        exact Option.some_ne_none w
    simp only [repeated, hi, blockRepeat, hu, onNext]
    split
    · exact next _ rfl rfl rfl rfl rfl rfl
    · exact next _ rfl rfl rfl rfl rfl rfl

/-- BC = 1, one iteration, and BC = 0, which is 65536 iterations, upwards and downwards. -/
theorem wit_RepeatedMoveEndsWithBcZero :
    (∃ t, repeated .ldir 1 (here [r16 .hl 0x8000, r16 .bc 0x0001]) = .next t) ∧
    (∃ t, repeated .ldir 65536 (here [r16 .hl 0x8000, r16 .de 0x8001]) = .next t) ∧
    (∃ t, repeated .lddr 65536 (here [r16 .hl 0x8000, r16 .de 0x7FFF]) = .next t) ∧
    bc (here [r16 .hl 0x8000, r16 .de 0x8001]).cpu.main = 0 := by
  refine ⟨⟨_, rfl⟩, fill_completes (dir := 1) (fun _ => rfl) _ _ ?_ ?_ ?_ ?_ ?_,
    fill_completes (dir := -1) (fun _ => rfl) _ _ ?_ ?_ ?_ ?_ ?_, ?_⟩ <;> decide

end Sys2Proof.Tests
end

section
/-! SUPPORT. INC and DEC of an index register (R223, R224, R253, R254): what each of the four leaves, with the word
arithmetic modulo 2^16. `setIdx` reads neither the prefix context nor a flag, which is why no prefix has an effect. -/

namespace Sys2Proof.Machine

/-- `w + 1` wraps: it is the number's successor modulo 2^16 (R253, R254). -/
theorem succ_eq_ofNat (w : Word) : w + 1 = BitVec.ofNat 16 (w.toNat + 1) := by
  rw [BitVec.ofNat_add, BitVec.ofNat_toNat, BitVec.setWidth_eq]
  rfl

/-- `w - 1` wraps: modulo 2^16 it is an addition of 65535 (R223, R224). -/
theorem pred_eq_ofNat (w : Word) : w - 1 = BitVec.ofNat 16 (w.toNat + 65535) := by
  rw [BitVec.ofNat_add, BitVec.ofNat_toNat, BitVec.setWidth_eq, BitVec.sub_eq_add_neg]
  rfl

theorem State.setIdx_ix (s : State) (v : Word) : s.setIdx .ix v = { s with cpu := { s.cpu with ix := v } } := rfl
theorem State.setIdx_iy (s : State) (v : Word) : s.setIdx .iy v = { s with cpu := { s.cpu with iy := v } } := rfl

theorem exec_incIX (s : State) : exec .incIX s = .next (s.setIdx .ix (s.cpu.ix + 1)) := rfl
theorem exec_incIY (s : State) : exec .incIY s = .next (s.setIdx .iy (s.cpu.iy + 1)) := rfl
theorem exec_decIX (s : State) : exec .decIX s = .next (s.setIdx .ix (s.cpu.ix - 1)) := rfl
theorem exec_decIY (s : State) : exec .decIY s = .next (s.setIdx .iy (s.cpu.iy - 1)) := rfl

/-- Settles O34: each row's own equation, its word arithmetic written modulo 2^16. -/
theorem stepIndexRegisters : Obligations.StepIndexRegisters := by
  refine ⟨⟨rfl, rfl, rfl, rfl⟩, by decide, fun s => ⟨?incIX, ?incIY, ?decIX, ?decIY⟩⟩
  case incIX => rw [exec_incIX, succ_eq_ofNat, State.setIdx_ix]
  case incIY => rw [exec_incIY, succ_eq_ofNat, State.setIdx_iy]
  case decIX => rw [exec_decIX, pred_eq_ofNat, State.setIdx_ix]
  case decIY => rw [exec_decIY, pred_eq_ofNat, State.setIdx_iy]

end Sys2Proof.Machine
end

section
/-! SUPPORT. The exchanges of the main with the alternate bank (R232, R235). Neither reads the prefix context. -/

namespace Sys2Proof.Machine

/-- A and all of F change places; the other registers of both banks stay (R232). -/
theorem exec_exAFAFalt (s : State) : exec .exAFAFalt s = .next (exchangeAF s) := rfl

/-- The banks change places but for A and F, which stay in theirs (R235). -/
theorem exec_exx (s : State) : exec .exx s = .next (exchangeBanks s) := rfl

/-- Settles O42: each row's exchange, bank by bank. -/
theorem exchangeOfBanks : Obligations.ExchangeOfBanks := by
  refine ⟨⟨rfl, rfl⟩, by decide, fun s => ⟨?exAF, ?exx⟩⟩
  case exAF => rw [exec_exAFAFalt, exchangeAF]
  case exx => rw [exec_exx, exchangeBanks]

end Sys2Proof.Machine
end

section
/-! SUPPORT. IPSET and IPRES (R261 to R265): the stack of four priorities in IP, its concatenations as numbers. Both
write IP by `setIp`, which reads neither the prefix context nor a flag. -/

namespace Sys2Proof.Machine

/-- A concatenation is the number with the left part above the right part's bits. -/
theorem toNat_append_eq_add {m n : Nat} (x : BitVec m) (y : BitVec n) : (x ++ y).toNat = x.toNat * 2 ^ n + y.toNat := by
  rw [BitVec.toNat_append, ← Nat.shiftLeft_add_eq_or_of_lt y.isLt, Nat.shiftLeft_eq]

/-- The oldest priority, `IP[7:6]`, leaves modulo 2^8 (R261 to R264). -/
theorem shiftedIn_eq_ofNat (ip : Byte) (p : BitVec 2) :
    ip.extractLsb' 0 6 ++ p = BitVec.ofNat 8 (ip.toNat * 4 + p.toNat) := by
  apply BitVec.eq_of_toNat_eq
  rw [toNat_append_eq_add, BitVec.extractLsb'_toNat, BitVec.toNat_ofNat, Nat.shiftRight_zero]
  have := p.isLt
  omega

/-- The current priority, `IP[1:0]`, becomes the oldest one (R265). -/
theorem rotated_eq_ofNat (ip : Byte) :
    ip.extractLsb' 0 2 ++ ip.extractLsb' 2 6 = BitVec.ofNat 8 (ip.toNat / 4 + 64 * (ip.toNat % 4)) := by
  apply BitVec.eq_of_toNat_eq
  have hlt : ip.toNat / 4 + 64 * (ip.toNat % 4) < 2 ^ 8 := by
    have := ip.isLt
    omega
  rw [toNat_append_eq_add, BitVec.extractLsb'_toNat, BitVec.extractLsb'_toNat, BitVec.toNat_ofNat, Nat.mod_eq_of_lt hlt,
    Nat.shiftRight_zero, Nat.shiftRight_eq_div_pow]
  omega

theorem pushPriority_eq (p : BitVec 2) (s : State) :
    pushPriority p s = { s with cpu := { s.cpu with ip := BitVec.ofNat 8 (s.cpu.ip.toNat * 4 + p.toNat) } } := by
  rw [pushPriority, shiftedIn_eq_ofNat, State.setIp]

theorem popPriority_eq (s : State) :
    popPriority s = { s with cpu := { s.cpu with
      ip := BitVec.ofNat 8 (s.cpu.ip.toNat / 4 + 64 * (s.cpu.ip.toNat % 4)) } } := by
  rw [popPriority, rotated_eq_ofNat, State.setIp]

theorem exec_ipset0 (s : State) : exec .ipset0 s = .next (pushPriority 0 s) := rfl
theorem exec_ipset1 (s : State) : exec .ipset1 s = .next (pushPriority 1 s) := rfl
theorem exec_ipset2 (s : State) : exec .ipset2 s = .next (pushPriority 2 s) := rfl
theorem exec_ipset3 (s : State) : exec .ipset3 s = .next (pushPriority 3 s) := rfl
theorem exec_ipres (s : State) : exec .ipres s = .next (popPriority s) := rfl

/-- Settles O44: each row pushes its priority, and a push is the shift by two bits as arithmetic modulo 2^8. -/
theorem ipsetPushesAPriority : Obligations.IpsetPushesAPriority := by
  refine ⟨⟨rfl, rfl, rfl, rfl⟩, by decide, fun s => ⟨?ipset0, ?ipset1, ?ipset2, ?ipset3⟩⟩
  case ipset0 => rw [exec_ipset0, pushPriority_eq]; rfl
  case ipset1 => rw [exec_ipset1, pushPriority_eq]; rfl
  case ipset2 => rw [exec_ipset2, pushPriority_eq]; rfl
  case ipset3 => rw [exec_ipset3, pushPriority_eq]; rfl

/-- Settles O45: the row pops a priority, and the pop is the rotation by two bits as arithmetic. -/
theorem ipresRotatesThePriorities : Obligations.IpresRotatesThePriorities :=
  ⟨rfl, rfl, rfl, fun s => by rw [exec_ipres, popPriority_eq]⟩

end Sys2Proof.Machine
end

section
/-! SUPPORT. The unconditional jumps (R280 to R283). PC receives a register or the constant `mn` by `setPc`, which reads
neither memory, the prefix context nor a flag. -/

namespace Sys2Proof.Machine

/-- The source writes `mn` low byte first (R283). -/
theorem encode_jpmn_append (m n : Byte) : encode (.jpmn (m ++ n)) = [0xC3, n, m] := by
  have hencode : encode (.jpmn (word m n)) = [0xC3, lo (word m n), hi (word m n)] := rfl
  rwa [lo_word, hi_word] at hencode

/-- The model's write of PC is the one the statements speak of. -/
theorem State.setPc_eq_atPc (s : State) (a : Addr) : s.setPc a = Expect.atPc s a := rfl

theorem State.pair_hl (s : State) : s.pair .hl = Expect.hl s.cpu.main := rfl

theorem exec_jpAtHL (s : State) : exec .jpAtHL s = .next (s.setPc (s.pair .hl)) := rfl
theorem exec_jpAtIX (s : State) : exec .jpAtIX s = .next (s.setPc s.cpu.ix) := rfl
theorem exec_jpAtIY (s : State) : exec .jpAtIY s = .next (s.setPc s.cpu.iy) := rfl
theorem exec_jpmn (mn : Addr) (s : State) : exec (.jpmn mn) s = .next (s.setPc mn) := rfl

/-- Settles O37: each row writes PC alone, with the register it names or with its constant. -/
theorem absoluteJumps : Obligations.AbsoluteJumps := by
  refine ⟨⟨rfl, rfl, rfl, encode_jpmn_append⟩, ⟨rfl, rfl, rfl, fun _ => ⟨rfl, rfl⟩⟩, by decide,
    fun s mn => ⟨?jpAtHL, ?jpAtIX, ?jpAtIY, ?jpmn⟩⟩
  case jpAtHL => rw [exec_jpAtHL, State.pair_hl, State.setPc_eq_atPc]
  case jpAtIX => rw [exec_jpAtIX, State.setPc_eq_atPc]
  case jpAtIY => rw [exec_jpAtIY, State.setPc_eq_atPc]
  case jpmn => rw [exec_jpmn, State.setPc_eq_atPc]

end Sys2Proof.Machine
end

section
/-! SUPPORT. The decoder and the encoder (R110 to R115): the pages of the decoder hold exactly what the encoder writes,
and the loop over the prefixes reads the prefix rows that stand before a core. -/

namespace Sys2Proof

/-! ## One row: what the encoder writes is read back -/

/-- Every row reads back from the bytes the encoder writes for it: those with a 16-bit constant by putting it together
again from its halves, every other one by running the decoder. -/
theorem readRow_encode (i : Instr) : Laws.RoundTrip.Statement i := by
  intro rest
  cases i with
  | callmn mn => exact Laws.RoundTrip.callmn mn rest
  | jpmn mn => exact Laws.RoundTrip.jpmn mn rest
  | jpNZmn mn => exact Laws.RoundTrip.jpNZmn mn rest
  | jpZmn mn => exact Laws.RoundTrip.jpZmn mn rest
  | jpNCmn mn => exact Laws.RoundTrip.jpNCmn mn rest
  | jpCmn mn => exact Laws.RoundTrip.jpCmn mn rest
  | jpLZmn mn => exact Laws.RoundTrip.jpLZmn mn rest
  | jpLOmn mn => exact Laws.RoundTrip.jpLOmn mn rest
  | jpPmn mn => exact Laws.RoundTrip.jpPmn mn rest
  | jpMmn mn => exact Laws.RoundTrip.jpMmn mn rest
  | lcallxmn x mn => exact Laws.RoundTrip.lcallxmn x mn rest
  | ldAtmnA mn => exact Laws.RoundTrip.ldAtmnA mn rest
  | ldAtmnHL mn => exact Laws.RoundTrip.ldAtmnHL mn rest
  | ldAtmnIX mn => exact Laws.RoundTrip.ldAtmnIX mn rest
  | ldAtmnIY mn => exact Laws.RoundTrip.ldAtmnIY mn rest
  | ldAtmnBC mn => exact Laws.RoundTrip.ldAtmnBC mn rest
  | ldAtmnDE mn => exact Laws.RoundTrip.ldAtmnDE mn rest
  | ldAtmnHLed mn => exact Laws.RoundTrip.ldAtmnHLed mn rest
  | ldAtmnSP mn => exact Laws.RoundTrip.ldAtmnSP mn rest
  | ldAAtmn mn => exact Laws.RoundTrip.ldAAtmn mn rest
  | ldBCAtmn mn => exact Laws.RoundTrip.ldBCAtmn mn rest
  | ldDEAtmn mn => exact Laws.RoundTrip.ldDEAtmn mn rest
  | ldSPAtmn mn => exact Laws.RoundTrip.ldSPAtmn mn rest
  | ldHLAtmn mn => exact Laws.RoundTrip.ldHLAtmn mn rest
  | ldBCmn mn => exact Laws.RoundTrip.ldBCmn mn rest
  | ldDEmn mn => exact Laws.RoundTrip.ldDEmn mn rest
  | ldHLmn mn => exact Laws.RoundTrip.ldHLmn mn rest
  | ldSPmn mn => exact Laws.RoundTrip.ldSPmn mn rest
  | ldIXAtmn mn => exact Laws.RoundTrip.ldIXAtmn mn rest
  | ldIXmn mn => exact Laws.RoundTrip.ldIXmn mn rest
  | ldIYmn mn => exact Laws.RoundTrip.ldIYmn mn rest
  | ldIYAtmn mn => exact Laws.RoundTrip.ldIYAtmn mn rest
  | _ => rfl

/-! ## One row: what is read is what the encoder writes -/

/-- The encoder writes, for a row of this format, the opcode bytes `op` and then the operand bytes the decoder fetches
for it. -/
def Shape.EncodesAfter (op : List Byte) : Shape → Prop
  | .none i => encode i = op
  | .byte f => ∀ n, encode (f n) = op ++ [n]
  | .word f => ∀ w, encode (f w) = op ++ [Machine.lo w, Machine.hi w]
  | .wordByte f => ∀ x w, encode (f x w) = op ++ [Machine.lo w, Machine.hi w, x]
  | .bytes f => ∀ d n, encode (f d n) = op ++ [d, n]

/-- Operand bytes are read in the order in which the encoder writes them. -/
theorem Shape.read_eq_row {op : List Byte} {sh : Shape} (he : sh.EncodesAfter op) {t rest : List Byte} {i : Instr}
    (h : sh.read t = .row i rest) : op ++ t = encode i ++ rest := by
  match sh, t, he, h with
  | .none j, t, he, h => obtain ⟨rfl, rfl⟩ := RowResult.row.inj h; rw [he]
  | .byte f, n :: t, he, h => obtain ⟨rfl, rfl⟩ := RowResult.row.inj h; rw [he]; simp
  | .word f, n :: m :: t, he, h =>
    obtain ⟨rfl, rfl⟩ := RowResult.row.inj h
    rw [he, Machine.lo_word, Machine.hi_word]; simp
  | .wordByte f, n :: m :: x :: t, he, h =>
    obtain ⟨rfl, rfl⟩ := RowResult.row.inj h
    rw [he, Machine.lo_word, Machine.hi_word]; simp
  | .bytes f, d :: n :: t, he, h => obtain ⟨rfl, rfl⟩ := RowResult.row.inj h; rw [he]; simp

/-- Every row of the page, its opcode byte after the bytes `op` that select the page, is the encoder's row. -/
def PageEncodes (op : List Byte) (page : List (Nat × Shape)) : Prop :=
  ∀ e ∈ page, e.2.EncodesAfter (op ++ [BitVec.ofNat 8 e.1])

theorem PageEncodes.append {op : List Byte} {p q : List (Nat × Shape)} (hp : PageEncodes op p) (hq : PageEncodes op q) :
    PageEncodes op (p ++ q) := fun e he => (List.mem_append.mp he).elim (hp e) (hq e)

theorem pageEncodes_nil (op : List Byte) : PageEncodes op [] := nofun

theorem PageEncodes.cons {op : List Byte} {k : Nat} {sh : Shape} {p : List (Nat × Shape)}
    (he : sh.EncodesAfter (op ++ [BitVec.ofNat 8 k])) (hp : PageEncodes op p) : PageEncodes op ((k, sh) :: p) :=
  List.forall_mem_cons.mpr ⟨he, hp⟩


/-- The rows of every page are the encoder's (R126 to R129). -/
theorem pages_encode :
    PageEncodes [] mainPage ∧ PageEncodes [0xCB] cbPage ∧ PageEncodes [0xED] edPage ∧ PageEncodes [0xDD] ddPage ∧
    PageEncodes [0xFD] fdPage := by
  refine ⟨?_, ?_, ?_, ?_, ?_⟩
  all_goals
    repeat' apply PageEncodes.cons
    case hp => exact pageEncodes_nil _
    all_goals
      simp only [Shape.EncodesAfter]
      intros
      rfl

/-- The rows of `DD CB d op3` and `FD CB d op3` are the encoder's (R130). -/
theorem xyCbPages_encode :
    (∀ e ∈ ddCbPage, ∀ d, encode (e.2 d) = [0xDD, 0xCB, d, BitVec.ofNat 8 e.1]) ∧
    (∀ e ∈ fdCbPage, ∀ d, encode (e.2 d) = [0xFD, 0xCB, d, BitVec.ofNat 8 e.1]) := by
  constructor
  all_goals
    simp only [ddCbPage, fdCbPage, List.forall_mem_cons]
    exact ⟨fun _ => rfl, fun _ => rfl, fun _ => rfl, fun _ => rfl, fun _ => rfl, fun _ => rfl, fun _ => rfl, fun _ => rfl,
      nofun⟩

end Sys2Proof
end

section
namespace Sys2Proof

theorem mem_of_lookup {α : Type} {page : List (Nat × α)} {k : Nat} {x : α} (h : page.lookup k = some x) :
    (k, x) ∈ page := by
  obtain ⟨l, r, rfl, -⟩ := List.lookup_eq_some_iff.mp h
  simp

/-- What a page reads is the encoder's row. -/
theorem readOn_eq_row {op : List Byte} {page : List (Nat × Shape)} (hp : PageEncodes op page) {bs rest : List Byte}
    {i : Instr} (h : readOn page bs = .row i rest) : op ++ bs = encode i ++ rest := by
  match bs, h with
  | b :: t, h =>
    simp only [readOn] at h
    split at h
    · rename_i sh hsh
      have he := hp _ (mem_of_lookup hsh)
      simp only [BitVec.ofNat_toNat, BitVec.setWidth_eq] at he
      rw [← Shape.read_eq_row he h, List.append_assoc, List.singleton_append]
    · cases h

/-- What the last byte of `DD CB d op3` or `FD CB d op3` reads is the encoder's row. -/
theorem readXyCb_eq_row {xy : Byte} {page : List (Nat × (Byte → Instr))}
    (hp : ∀ e ∈ page, ∀ d, encode (e.2 d) = [xy, 0xCB, d, BitVec.ofNat 8 e.1]) {bs rest : List Byte} {i : Instr}
    (h : readXyCb page bs = .row i rest) : xy :: 0xCB :: bs = encode i ++ rest := by
  match bs, h with
  | d :: b :: t, h =>
    simp only [readXyCb] at h
    split at h
    · rename_i f hf
      obtain ⟨rfl, rfl⟩ := RowResult.row.inj h
      rw [hp _ (mem_of_lookup hf) d]
      simp
    · cases h

theorem readXy_eq_row {xy : Byte} {page : List (Nat × Shape)} {cbp : List (Nat × (Byte → Instr))}
    (hp : PageEncodes [xy] page) (hc : ∀ e ∈ cbp, ∀ d, encode (e.2 d) = [xy, 0xCB, d, BitVec.ofNat 8 e.1])
    {bs rest : List Byte} {i : Instr} (h : readXy page cbp bs = .row i rest) : xy :: bs = encode i ++ rest := by
  match bs, h with
  | b :: t, h =>
    simp only [readXy] at h
    split at h
    · rename_i hb
      exact hb ▸ readXyCb_eq_row hc h
    · exact readOn_eq_row hp h

/-- The bytes a row was read from are those the encoder writes for it, and what is left. -/
theorem readRow_eq_row {bs rest : List Byte} {i : Instr} (h : readRow bs = .row i rest) : bs = encode i ++ rest := by
  obtain ⟨hmain, hcb, hed, hdd, hfd⟩ := pages_encode
  obtain ⟨hddCb, hfdCb⟩ := xyCbPages_encode
  match bs, h with
  | b :: t, h =>
    simp only [readRow] at h
    split at h
    case isTrue hb => exact hb ▸ readOn_eq_row hcb h
    split at h
    case isTrue hb => exact hb ▸ readOn_eq_row hed h
    split at h
    case isTrue hb => exact hb ▸ readXy_eq_row hdd hddCb h
    split at h
    case isTrue hb => exact hb ▸ readXy_eq_row hfd hfdCb h
    exact readOn_eq_row hmain h

/-! ## The loop over the prefixes (R112 step 1, R115) -/

/-- The prefix rows, one by one. -/
theorem Instr.isPfx_cases {i : Instr} (h : i.isPfx = true) : i = .altd ∨ i = .ioi ∨ i = .ioe := by
  unfold Instr.isPfx at h
  split at h <;> simp_all

/-- One turn of the loop: a prefix row is refused if its kind was seen already, and stands before the rest otherwise. -/
theorem decodeFrom_pfx {i : Instr} (hi : i.isPfx = true) (a io : Bool) (bs : List Byte) :
    decodeFrom a io (encode i ++ bs) =
      if (i == .altd && a) || (i.isIoPfx && io) then .badPrefixes
      else (decodeFrom (a || i == .altd) (io || i.isIoPfx) bs).addPfx i := by
  rcases Instr.isPfx_cases hi with rfl | rfl | rfl <;> cases a <;> cases io <;> rfl

/-- The loop ends at bytes that begin with no prefix row. -/
theorem decodeFrom_core {bs : List Byte} (h : ∀ i rest, readRow bs = .row i rest → i.isPfx = false) (a io : Bool) :
    decodeFrom a io bs = decodeCore bs := by
  match bs, h with
  | [], _ => rfl
  | b :: t, h =>
    have ha : b ≠ altdByte := fun hb => Bool.noConfusion (h .altd t (hb ▸ rfl))
    have hi : b ≠ ioiByte := fun hb => Bool.noConfusion (h .ioi t (hb ▸ rfl))
    have he : b ≠ ioeByte := fun hb => Bool.noConfusion (h .ioe t (hb ▸ rfl))
    simp only [decodeFrom, ha, hi, he, if_false]

/-- No kind of prefix row stands twice, those counted that the loop has seen already (R115). -/
def PfxFit (a io : Bool) (pfx : List Instr) : Prop :=
  a.toNat + pfx.count .altd ≤ 1 ∧ io.toNat + pfx.countP Instr.isIoPfx ≤ 1

/-- One more of a kind of which at most one may stand. -/
theorem one_more_le_one (seen new : Bool) (n : Nat) :
    seen.toNat + (n + new.toNat) ≤ 1 ↔ (new && seen) = false ∧ (seen || new).toNat + n ≤ 1 := by
  cases seen <;> cases new <;> simp

/-- What a row adds to the kinds the loop has seen. -/
theorem pfxFit_cons (i : Instr) (a io : Bool) (pfx : List Instr) :
    PfxFit a io (i :: pfx) ↔
      ((i == .altd && a) || (i.isIoPfx && io)) = false ∧ PfxFit (a || i == .altd) (io || i.isIoPfx) pfx := by
  have hcount : (i :: pfx).count .altd = pfx.count .altd + (i == .altd).toNat := by
    rw [List.count_cons]
    cases i == .altd <;> rfl
  have hcountP : (i :: pfx).countP Instr.isIoPfx = pfx.countP Instr.isIoPfx + i.isIoPfx.toNat := by
    rw [List.countP_cons]
    cases i.isIoPfx <;> rfl
  rw [PfxFit, hcount, hcountP, one_more_le_one, one_more_le_one, Bool.or_eq_false_iff, PfxFit]
  tauto

/-- Prefix rows that fit are read one after the other, and then what follows them. -/
theorem decodeFrom_fit (bs : List Byte) {pfx : List Instr} (hp : pfx.all Instr.isPfx = true) {a io : Bool}
    (hf : PfxFit a io pfx) :
    ∃ a' io', decodeFrom a io (pfx.flatMap encode ++ bs) = pfx.foldr Decoded.addPfx (decodeFrom a' io' bs) := by
  induction pfx generalizing a io with
  | nil => exact ⟨a, io, rfl⟩
  | cons i pfx ih =>
    obtain ⟨hi, hp⟩ := Bool.and_eq_true_iff.mp hp
    obtain ⟨hok, hf⟩ := (pfxFit_cons i a io pfx).mp hf
    obtain ⟨a', io', h⟩ := ih hp hf
    exact ⟨a', io', by
      rw [List.flatMap_cons, List.append_assoc, decodeFrom_pfx hi, hok, h]; rfl⟩

/-- Prefix rows that do not fit are refused, whatever follows. -/
theorem decodeFrom_not_fit (bs : List Byte) {pfx : List Instr} (hp : pfx.all Instr.isPfx = true) {a io : Bool}
    (hf : ¬ PfxFit a io pfx) : decodeFrom a io (pfx.flatMap encode ++ bs) = .badPrefixes := by
  induction pfx generalizing a io with
  | nil => exact absurd ⟨Bool.toNat_le a, Bool.toNat_le io⟩ hf
  | cons i pfx ih =>
    obtain ⟨hi, hp⟩ := Bool.and_eq_true_iff.mp hp
    rw [pfxFit_cons i, not_and] at hf
    rw [List.flatMap_cons, List.append_assoc, decodeFrom_pfx hi]
    split
    · rfl
    · rename_i hok
      rw [ih hp (hf (Bool.not_eq_true _ ▸ hok))]
      rfl

theorem foldr_addPfx_instr (pfx : List Instr) (core : Instr) (rest : List Byte) :
    pfx.foldr Decoded.addPfx (.instr ⟨[], core⟩ rest) = .instr ⟨pfx, core⟩ rest := by
  induction pfx with
  | nil => rfl
  | cons i pfx ih => rw [List.foldr_cons, ih]; rfl

theorem foldr_addPfx_notInSource (pfx : List Instr) :
    pfx.foldr Decoded.addPfx .notInSource = .notInSource := by
  induction pfx with
  | nil => rfl
  | cons i pfx ih => rw [List.foldr_cons, ih]; rfl

/-- The flags of the loop at its start count nothing. -/
theorem pfxFit_start_iff (pfx : List Instr) :
    PfxFit false false pfx ↔ pfx.count .altd ≤ 1 ∧ pfx.countP Instr.isIoPfx ≤ 1 := by
  simp [PfxFit]

/-- Settles O1: the loop reads the prefix rows one by one, then the core's row reads back. -/
theorem decodeReadsBackEveryEncoding : Obligations.DecodeReadsBackEveryEncoding := by
  intro p rest hrows haltd hio
  obtain ⟨hpfx, hcore⟩ := Bool.and_eq_true _ _ ▸ hrows
  have hrow : readRow (encode p.core ++ rest) = .row p.core rest := readRow_encode p.core rest
  have hfit : PfxFit false false p.pfx :=
    (pfxFit_start_iff _).mpr ⟨of_decide_eq_true haltd, of_decide_eq_true hio⟩
  obtain ⟨a, io, h⟩ := decodeFrom_fit (encode p.core ++ rest) hpfx hfit
  have hcoreRow : ∀ i r, readRow (encode p.core ++ rest) = .row i r → i.isPfx = false := by
    intro i r hi
    rw [hrow] at hi
    obtain ⟨rfl, -⟩ := RowResult.row.inj hi
    simpa using hcore
  rw [Prefixed.encode, List.append_assoc, decode, h, decodeFrom_core hcoreRow, decodeCore, hrow]
  exact foldr_addPfx_instr _ _ _

/-- Bytes begin with a prefix row, or the loop ends there. -/
theorem pfx_or_core (bs : List Byte) :
    (∃ i t, i.isPfx = true ∧ bs = encode i ++ t) ∨ ∀ i rest, readRow bs = .row i rest → i.isPfx = false := by
  by_cases h : ∃ i rest, readRow bs = .row i rest ∧ i.isPfx = true
  · obtain ⟨i, rest, hrow, hi⟩ := h
    exact .inl ⟨i, rest, hi, readRow_eq_row hrow⟩
  · exact .inr fun i rest hrow => Bool.not_eq_true _ ▸ fun hi => h ⟨i, rest, hrow, hi⟩

theorem decodeCore_instr {bs rest : List Byte} {p : Prefixed} (h : decodeCore bs = .instr p rest) :
    p.pfx = [] ∧ readRow bs = .row p.core rest := by
  unfold decodeCore at h
  split at h
  · obtain ⟨rfl, rfl⟩ := Decoded.instr.inj h
    exact ⟨rfl, by assumption⟩
  · cases h
  · cases h

theorem addPfx_instr {i : Instr} {d : Decoded} {p : Prefixed} {rest : List Byte} (h : d.addPfx i = .instr p rest) :
    ∃ q, d = .instr q rest ∧ p = ⟨i :: q.pfx, q.core⟩ := by
  cases d with
  | instr q r =>
    obtain ⟨rfl, rfl⟩ := Decoded.instr.inj h
    exact ⟨q, rfl, rfl⟩
  | notInSource => cases h
  | badPrefixes => cases h
  | truncated => cases h

/-- What the loop accepts: prefix rows that fit, then a row that is no prefix row. -/
theorem decodeFrom_instr {a io : Bool} {bs rest : List Byte} {p : Prefixed} (h : decodeFrom a io bs = .instr p rest) :
    bs = p.encode ++ rest ∧ p.rowsWf = true ∧ PfxFit a io p.pfx := by
  rcases pfx_or_core bs with ⟨i, t, hi, hbs⟩ | hcore
  · have hshorter : t.length < bs.length := by
      rcases Instr.isPfx_cases hi with rfl | rfl | rfl <;> exact hbs ▸ Nat.lt_succ_self _
    rw [hbs, decodeFrom_pfx hi] at h
    split at h
    · cases h
    · rename_i hok
      obtain ⟨q, hq, rfl⟩ := addPfx_instr h
      obtain ⟨ht, hrows, hfit⟩ := decodeFrom_instr hq
      refine ⟨?bytes, ?rows, (pfxFit_cons i a io q.pfx).mpr ⟨Bool.not_eq_true _ ▸ hok, hfit⟩⟩
      case bytes => simp [hbs, ht, Prefixed.encode]
      case rows => simpa [Prefixed.rowsWf, hi] using hrows
  · rw [decodeFrom_core hcore] at h
    obtain ⟨hpfx, hrow⟩ := decodeCore_instr h
    refine ⟨?bytes, ?rows, hpfx ▸ ⟨Bool.toNat_le a, Bool.toNat_le io⟩⟩
    case bytes => simpa [Prefixed.encode, hpfx] using readRow_eq_row hrow
    case rows => simp [Prefixed.rowsWf, hpfx, hcore _ _ hrow]
termination_by bs.length

/-- Settles O2. -/
theorem decodeAcceptsOnlyEncodings : Obligations.DecodeAcceptsOnlyEncodings := by
  intro bs p rest h
  obtain ⟨hbs, hrows, hfit⟩ := decodeFrom_instr h
  obtain ⟨haltd, hio⟩ := (pfxFit_start_iff _).mp hfit
  exact ⟨hbs, hrows, decide_eq_true haltd, decide_eq_true hio⟩

/-- Settles O4: two rows of one kind do not fit. -/
theorem prefixCombinationsRefused : Obligations.PrefixCombinationsRefused := by
  intro pfx rest hp htwo
  refine decodeFrom_not_fit rest hp fun hfit => ?_
  obtain ⟨haltd, hio⟩ := (pfxFit_start_iff _).mp hfit
  omega

end Sys2Proof
end

section
/-! SUPPORT. The bytes that no page lists (R126 to R131): the decoder refuses them, alone and after prefix rows. -/

namespace Sys2Proof

open Machine Expect

/-- A page answers nothing at a number that is none of its opcodes. -/
theorem lookup_unlisted {α : Type} {page : List (Nat × α)} {k : Nat} (h : k ∉ page.map Prod.fst) : page.lookup k = none :=
  List.lookup_eq_none_iff.mpr fun e he => bne_iff_ne.mpr fun heq => h (List.mem_map.mpr ⟨e, he, heq.symm⟩)

theorem readOn_unlisted {page : List (Nat × Shape)} {b : Byte} (h : b.toNat ∉ page.map Prod.fst) (t : List Byte) :
    readOn page (b :: t) = .notInSource := by
  rw [readOn, lookup_unlisted h]

theorem readXyCb_unlisted {page : List (Nat × (Byte → Instr))} {b : Byte} (h : b.toNat ∉ page.map Prod.fst)
    (d : Byte) (t : List Byte) : readXyCb page (d :: b :: t) = .notInSource := by
  rw [readXyCb, lookup_unlisted h]

/-- A byte outside a list is outside every page whose opcodes the list holds. -/
theorem toNat_not_opcode {l : List Byte} {b : Byte} (hb : b ∉ l) {ks : List Nat} (hks : ∀ k ∈ ks, k ∈ l.map BitVec.toNat) :
    b.toNat ∉ ks := fun hk => hb <| by
  obtain ⟨c, hc, heq⟩ := List.mem_map.mp (hks _ hk)
  exact BitVec.eq_of_toNat_eq heq ▸ hc

/-- The opcodes of the main page leave the 70 empty bytes out, and none of these opens a page (R126). -/
theorem emptyMainBytes_unlisted : ∀ b ∈ emptyMainBytes,
    b.toNat ∉ mainPage.map Prod.fst ∧ b ≠ 0xCB#8 ∧ b ≠ 0xED#8 ∧ b ≠ 0xDD#8 ∧ b ≠ 0xFD#8 := by decide

theorem cbPage_opcodes : ∀ k ∈ cbPage.map Prod.fst, 0x40 ≤ k ∧ k < 0x80 := by decide
theorem edPage_opcodes : ∀ k ∈ edPage.map Prod.fst, k ∈ edBytes.map BitVec.toNat := by decide
theorem ddPage_opcodes : ∀ k ∈ ddPage.map Prod.fst, k ∈ xyBytes.map BitVec.toNat := by decide
theorem fdPage_opcodes : ∀ k ∈ fdPage.map Prod.fst, k ∈ xyBytes.map BitVec.toNat := by decide
theorem ddCbPage_opcodes : ∀ k ∈ ddCbPage.map Prod.fst, k ∈ xyCbBytes.map BitVec.toNat := by decide
theorem fdCbPage_opcodes : ∀ k ∈ fdCbPage.map Prod.fst, k ∈ xyCbBytes.map BitVec.toNat := by decide

theorem readRow_emptyMain {b : Byte} (hb : b ∈ emptyMainBytes) (t : List Byte) : readRow (b :: t) = .notInSource := by
  obtain ⟨hpage, hcb, hed, hdd, hfd⟩ := emptyMainBytes_unlisted b hb
  rw [readRow, if_neg hcb, if_neg hed, if_neg hdd, if_neg hfd, readOn_unlisted hpage]

theorem readRow_cb_unlisted {b : Byte} (hb : b.toNat < 0x40 ∨ 0x80 ≤ b.toNat) (t : List Byte) :
    readRow (0xCB :: b :: t) = .notInSource :=
  readOn_unlisted (page := cbPage) (fun hk => by have := cbPage_opcodes _ hk; omega) t

theorem readRow_ed_unlisted {b : Byte} (hb : b ∉ edBytes) (t : List Byte) : readRow (0xED :: b :: t) = .notInSource :=
  readOn_unlisted (page := edPage) (toNat_not_opcode hb edPage_opcodes) t

/-- A second byte that is not listed does not open the XY-CB page either. -/
theorem readXy_unlisted {page : List (Nat × Shape)} (cbp : List (Nat × (Byte → Instr)))
    (hp : ∀ k ∈ page.map Prod.fst, k ∈ xyBytes.map BitVec.toNat) {b : Byte} (hb : b ∉ xyBytes) (t : List Byte) :
    readXy page cbp (b :: t) = .notInSource := by
  have hcb : b ≠ 0xCB#8 := fun heq => hb (heq ▸ by decide)
  rw [readXy, if_neg hcb, readOn_unlisted (toNat_not_opcode hb hp)]

/-- Bytes that are no row are refused by the step after every prefix list that may stand (R131). -/
theorem step_unlisted {s : State} {pfx : List Instr} {u : List Byte} (hp : pfx.all Instr.isPfx = true)
    (hf : PfxFit false false pfx) (hu : readRow u = .notInSource) (hs : s.fetched = pfx.flatMap encode ++ u) :
    step s = .refused .encodingNotInSource := by
  obtain ⟨a, io, h⟩ := decodeFrom_fit u hp hf
  have hcore : decodeFrom a io u = .notInSource := by
    rw [decodeFrom_core (fun i rest hrow => by rw [hu] at hrow; cases hrow), decodeCore, hu]
  rw [step, hs, decode, h, hcore, foldr_addPfx_notInSource]
  rfl

/-- Settles O5: on its page none of these bytes is listed. -/
theorem unlistedEncodingsRefused : Obligations.UnlistedEncodingsRefused := by
  intro s pfx b d t hp haltd hio
  have refused {u : List Byte} (hu : readRow u = .notInSource) (hs : s.fetched = pfx.flatMap encode ++ u) :=
    step_unlisted hp ((pfxFit_start_iff pfx).mpr ⟨haltd, hio⟩) hu hs
  refine ⟨fun hb => ?main, fun hb => ?cb, fun hb => ?ed, fun hb => ⟨?dd, ?fd⟩, fun hb => ⟨?ddCb, ?fdCb⟩⟩
  case main => exact refused (readRow_emptyMain hb t)
  case cb => exact refused (readRow_cb_unlisted hb t)
  case ed => exact refused (readRow_ed_unlisted hb t)
  case dd => exact refused (readXy_unlisted ddCbPage ddPage_opcodes hb t)
  case fd => exact refused (readXy_unlisted fdCbPage fdPage_opcodes hb t)
  case ddCb => exact refused (readXyCb_unlisted (toNat_not_opcode hb ddCbPage_opcodes) d t)
  case fdCb => exact refused (readXyCb_unlisted (toNat_not_opcode hb fdCbPage_opcodes) d t)

/-- Settles O3: each word is decoded by running the decoder. -/
theorem sampleWordsDecode : Obligations.SampleWordsDecode :=
  ⟨rfl, rfl, rfl, rfl, rfl, rfl, rfl, rfl, rfl, rfl, rfl, rfl, rfl, rfl⟩

end Sys2Proof

namespace Sys2Proof.Machine

/-- Bytes that stand from an address on are fetched in order, as far as the fetch reaches (R84). -/
theorem fetchBytes_eq_append (s : State) (bs : List Byte) (n : Nat) (a : Addr) (hlen : bs.length ≤ n)
    (h : ∀ k (hk : k < bs.length), s.peek (a + BitVec.ofNat 16 k) = some bs[k]) :
    ∃ rest, fetchBytes s n a = bs ++ rest := by
  induction bs generalizing n a with
  | nil => exact ⟨_, rfl⟩
  | cons b bs ih =>
    obtain ⟨n, rfl⟩ := Nat.exists_eq_add_one_of_ne_zero (Nat.ne_of_gt (Nat.lt_of_lt_of_le (Nat.succ_pos _) hlen))
    have hfirst : s.peek a = some b := by simpa using h 0 (Nat.succ_pos _)
    obtain ⟨rest, hrest⟩ := ih n (a + 1) (Nat.le_of_succ_le_succ hlen) fun k hk => by
      have hnext := h (k + 1) (Nat.succ_lt_succ hk)
      rwa [BitVec.ofNat_add, BitVec.add_comm (BitVec.ofNat 16 k), ← BitVec.add_assoc] at hnext
    exact ⟨rest, by rw [fetchBytes, hfirst, List.cons_append, ← hrest]⟩

/-- Settles O6: the fetch reaches six bytes. -/
theorem fetchReadsTheBytesAtPc : Obligations.FetchReadsTheBytesAtPc := fun s bs hlen h =>
  fetchBytes_eq_append s bs maxLength s.cpu.pc hlen h

end Sys2Proof.Machine
end

section
/-! SUPPORT. A step runs the core of the decoded instruction in the context its prefix rows set (R13, R36, R116). -/

namespace Sys2Proof.Machine

/-- Settles O9: each of the three rows writes its field. -/
theorem prefixRowsSetTheContext : Obligations.PrefixRowsSetTheContext := fun _ => ⟨rfl, rfl, rfl⟩

/-- The I/O space that a list of prefix rows selects, `old` without one. -/
def ioContext (pfx : List Instr) (old : Option IoSpace) : Option IoSpace :=
  if pfx.contains .ioi then some .ioi else if pfx.contains .ioe then some .ioe else old

theorem ioContext_of_none {pfx : List Instr} (h : pfx.countP Instr.isIoPfx = 0) (old : Option IoSpace) :
    ioContext pfx old = old := by
  have hnot : ∀ i ∈ pfx, ¬ i.isIoPfx = true := List.countP_eq_zero.mp h
  have hioi : .ioi ∉ pfx := fun hi => hnot _ hi rfl
  have hioe : .ioe ∉ pfx := fun hi => hnot _ hi rfl
  simp [ioContext, hioi, hioe]

theorem ioContext_altd (pfx : List Instr) (old : Option IoSpace) : ioContext (.altd :: pfx) old = ioContext pfx old := by
  simp [ioContext]

/-- The one I/O prefix that may stand there decides (R115). -/
theorem ioContext_ioi {pfx : List Instr} (h : (.ioi :: pfx : List Instr).countP Instr.isIoPfx ≤ 1) (old : Option IoSpace) :
    ioContext (.ioi :: pfx) old = ioContext pfx (some .ioi) := by
  rw [List.countP_cons_of_pos rfl] at h
  rw [ioContext_of_none (Nat.le_zero.mp (Nat.le_of_succ_le_succ h))]
  simp [ioContext]

theorem ioContext_ioe (pfx : List Instr) (old : Option IoSpace) :
    ioContext (.ioe :: pfx) old = ioContext pfx (some .ioe) := by
  simp [ioContext]

theorem execAll_singleton (core : Instr) (s : State) : execAll [core] s = exec core s := by
  rw [execAll]
  cases exec core s <;> rfl

/-- Prefix rows set the context, and the core runs in it. -/
theorem execAll_pfx {pfx : List Instr} (hp : pfx.all Instr.isPfx = true) (hio : pfx.countP Instr.isIoPfx ≤ 1)
    (core : Instr) (s : State) :
    execAll (pfx ++ [core]) s =
      exec core { s with altd := s.altd || pfx.contains .altd, io := ioContext pfx s.io } := by
  induction pfx generalizing s with
  | nil => rw [List.nil_append, execAll_singleton, ioContext_of_none rfl]; simp
  | cons i pfx ih =>
    obtain ⟨hi, hp⟩ := Bool.and_eq_true_iff.mp hp
    have hrest : pfx.countP Instr.isIoPfx ≤ 1 := le_trans (List.Sublist.countP_le (List.sublist_cons_self i pfx)) hio
    obtain ⟨haltd, hioi, hioe⟩ := prefixRowsSetTheContext s
    rw [List.cons_append, execAll]
    rcases Instr.isPfx_cases hi with rfl | rfl | rfl
    · rw [haltd, ioContext_altd]
      simpa using ih hp hrest { s with altd := true }
    · rw [hioi, ioContext_ioi hio]
      simpa using ih hp hrest { s with io := some .ioi }
    · rw [hioe, ioContext_ioe]
      simpa using ih hp hrest { s with io := some .ioe }

/-- Where the core of a decoded instruction starts: PC is `pcn`, `pc0` the first byte, and the prefix rows have set the
context (R13, R36). -/
def coreStart (p : Prefixed) (s : State) : State :=
  { s with
    cpu := { s.cpu with pc := s.cpu.pc + BitVec.ofNat 16 p.length }
    pc0 := s.cpu.pc
    altd := p.pfx.contains .altd
    io := ioContext p.pfx none }

/-- A step whose bytes are an instruction runs its core and then the end of the instruction. -/
theorem step_eq_of_decoded {s : State} {p : Prefixed} {rest : List Byte} (h : decode s.fetched = .instr p rest) :
    step s = onNext (exec p.core (coreStart p s)) (finishInstr p.core) := by
  obtain ⟨-, hrows, -, hio⟩ := decodeAcceptsOnlyEncodings _ _ _ h
  obtain ⟨hpfx, -⟩ := Bool.and_eq_true_iff.mp hrows
  rw [step, h, runDecoded, runInstr, execAll_pfx hpfx (of_decide_eq_true hio)]
  simp [coreStart, beginInstr]

/-- A step that answers a next state decoded an instruction, ran its core, which is no prefix row, and ended it. -/
theorem step_next {s t : State} (h : step s = .next t) :
    ∃ p rest u, decode s.fetched = .instr p rest ∧ p.core.isPfx = false ∧ exec p.core (coreStart p s) = .next u ∧
      t = finishInstr p.core u := by
  cases hd : decode s.fetched with
  | instr p rest =>
    obtain ⟨-, hrows, -, -⟩ := decodeAcceptsOnlyEncodings _ _ _ hd
    obtain ⟨-, hcore⟩ := Bool.and_eq_true_iff.mp hrows
    rw [step_eq_of_decoded hd] at h
    obtain ⟨u, hu, rfl⟩ := onNext_next h
    exact ⟨p, rest, u, rfl, by simpa using hcore, hu, rfl⟩
  | notInSource => rw [step, hd] at h; cases h
  | badPrefixes => rw [step, hd] at h; cases h
  | truncated => rw [step, hd] at h; cases h

/-- Settles O7. -/
theorem stepRunsTheDecodedInstruction : Obligations.StepRunsTheDecodedInstruction := fun _ _ _ h =>
  step_eq_of_decoded h

/-- Settles O10: no cell is listed and no prefix row was seen. -/
theorem resetMeetsTheInvariant : Obligations.ResetMeetsTheInvariant := ⟨reset_mem_wf, rfl, rfl, rfl⟩

/-- Settles O12: the fields of the reset state, one by one. -/
theorem resetState : Obligations.ResetState :=
  ⟨rfl, rfl, rfl, rfl, rfl, rfl, rfl, rfl, rfl, fun r => by cases r <;> exact ⟨rfl, rfl⟩, rfl, rfl,
    fun _ => ⟨rfl, rfl, rfl⟩, rfl, rfl, rfl, rfl, rfl⟩

end Sys2Proof.Machine
end

section
/-! SUPPORT. What an instruction can do, said once for all rows: which parts of the state it may write (R32, R33, R42),
and where it can stop (R400). -/

namespace Sys2Proof

/-- The registers of R32, R33 and R42 that a row may write: the control and index registers, a flag register, and the
alternate bank without ALTD. -/
structure Written where
  ip : Bool
  xpc : Bool
  iir : Bool
  eir : Bool
  sp : Bool
  ix : Bool
  iy : Bool
  flags : Bool
  alt : Bool

/-- The rows of R32, R33 and R42, and `EX AF,AF'`, which exchanges the flag registers. -/
def Instr.written (i : Instr) : Written :=
  { ip := i.writesIp, xpc := i.writesXpc, iir := decide (i = .ldIIRA), eir := decide (i = .ldEIRA), sp := i.writesSp,
    ix := i.writesIx, iy := i.writesIy, flags := i.writesFlags || decide (i = .exAFAFalt), alt := i.writesAlt }

def Written.idx (w : Written) : Index → Bool
  | .ix => w.ix
  | .iy => w.iy

namespace Machine

/-- From the registers `c` to the registers `d` nothing is written but what `w` names; the alternate bank also under
ALTD. -/
structure CpuOnly (w : Written) (altd : Bool) (c d : Cpu) : Prop where
  ip : w.ip = false → d.ip = c.ip
  xpc : w.xpc = false → d.xpc = c.xpc
  iir : w.iir = false → d.iir = c.iir
  eir : w.eir = false → d.eir = c.eir
  sp : w.sp = false → d.sp = c.sp
  ix : w.ix = false → d.ix = c.ix
  iy : w.iy = false → d.iy = c.iy
  flags : w.flags = false → d.main.f = c.main.f ∧ d.alt.f = c.alt.f
  alt : w.alt = false → altd = false → d.alt = c.alt

/-- What every row keeps: the mapping, the cells that take a write, the latch, the requests and the prefix context; the
I/O history grows at its end; memory stays canonical; and of the registers of `w` nothing else is written. -/
structure OnlyWrites (w : Written) (s t : State) : Prop where
  mapping : t.mapping = s.mapping
  readOnly : t.readOnly = s.readOnly
  ioBug : t.ioBug = s.ioBug
  intRequests : t.intRequests = s.intRequests
  altd : t.altd = s.altd
  io : t.io = s.io
  ioTrace : ∃ es, t.ioTrace = s.ioTrace ++ es
  mem : s.mem.wf → t.mem.wf
  cpu : CpuOnly w s.altd s.cpu t.cpu

variable {w : Written}

theorem CpuOnly.refl (altd : Bool) (c : Cpu) : CpuOnly w altd c c := by
  constructor <;> intros <;> trivial

theorem CpuOnly.trans {altd : Bool} {c d e : Cpu} (h : CpuOnly w altd c d) (h' : CpuOnly w altd d e) :
    CpuOnly w altd c e where
  ip hw := (h'.ip hw).trans (h.ip hw)
  xpc hw := (h'.xpc hw).trans (h.xpc hw)
  iir hw := (h'.iir hw).trans (h.iir hw)
  eir hw := (h'.eir hw).trans (h.eir hw)
  sp hw := (h'.sp hw).trans (h.sp hw)
  ix hw := (h'.ix hw).trans (h.ix hw)
  iy hw := (h'.iy hw).trans (h.iy hw)
  flags hw := ⟨(h'.flags hw).1.trans (h.flags hw).1, (h'.flags hw).2.trans (h.flags hw).2⟩
  alt hw ha := (h'.alt hw ha).trans (h.alt hw ha)

/-- A change of the destination bank that keeps its flags. -/
theorem CpuOnly.onBank {altd : Bool} {g : Bank → Bank} (hg : ∀ k, (g k).f = k.f) (c : Cpu) :
    CpuOnly w altd c (c.onBank altd g) := by
  cases altd <;> constructor <;> simp [Cpu.onBank, hg]

/-- A change of the destination bank, its flags too. -/
theorem CpuOnly.onBank_flags (hw : w.flags = true) {altd : Bool} (g : Bank → Bank) (c : Cpu) :
    CpuOnly w altd c (c.onBank altd g) := by
  cases altd <;> constructor <;> simp [Cpu.onBank, hw]

namespace OnlyWrites

theorem refl (s : State) : OnlyWrites w s s :=
  ⟨rfl, rfl, rfl, rfl, rfl, rfl, ⟨[], (List.append_nil _).symm⟩, id, .refl _ _⟩

theorem trans {s t u : State} (h : OnlyWrites w s t) (h' : OnlyWrites w t u) : OnlyWrites w s u where
  mapping := h'.mapping.trans h.mapping
  readOnly := h'.readOnly.trans h.readOnly
  ioBug := h'.ioBug.trans h.ioBug
  intRequests := h'.intRequests.trans h.intRequests
  altd := h'.altd.trans h.altd
  io := h'.io.trans h.io
  ioTrace := by
    obtain ⟨es, hes⟩ := h.ioTrace
    obtain ⟨es', hes'⟩ := h'.ioTrace
    exact ⟨es ++ es', by rw [hes', hes, List.append_assoc]⟩
  mem hwf := h'.mem (h.mem hwf)
  cpu := h.cpu.trans (h.altd ▸ h'.cpu)

/-! ## The operations on registers -/

/-- A change of registers alone. -/
theorem of_cpu {s : State} {c : Cpu} (h : CpuOnly w s.altd s.cpu c) : OnlyWrites w s { s with cpu := c } :=
  ⟨rfl, rfl, rfl, rfl, rfl, rfl, ⟨[], (List.append_nil _).symm⟩, id, h⟩

theorem dst8 (s : State) (r : Reg8) (v : Byte) : OnlyWrites w s (s.dst8 r v) :=
  of_cpu (.onBank (fun k => by cases r <;> rfl) _)

theorem dst16 (s : State) (q : Pair) (v : Word) : OnlyWrites w s (s.dst16 q v) :=
  of_cpu (.onBank (fun k => by cases q <;> rfl) _)

theorem setFlags (hw : w.flags = true) (s : State) (f : FlagWrite) : OnlyWrites w s (s.setFlags f) :=
  of_cpu (.onBank_flags hw _ _)

theorem dst8_setFlags (hw : w.flags = true) (s : State) (r : Reg8) (v : Byte) (f : FlagWrite) :
    OnlyWrites w s ((s.dst8 r v).setFlags f) := (dst8 s r v).trans (setFlags hw _ f)

theorem dst16_setFlags (hw : w.flags = true) (s : State) (q : Pair) (v : Word) (f : FlagWrite) :
    OnlyWrites w s ((s.dst16 q v).setFlags f) := (dst16 s q v).trans (setFlags hw _ f)

theorem setIdx {i : Index} (hi : w.idx i = true) (s : State) (v : Word) : OnlyWrites w s (s.setIdx i v) := by
  cases i <;> exact of_cpu (by constructor <;> simp_all [Written.idx])

theorem setIdx_setFlags {i : Index} (hi : w.idx i = true) (hw : w.flags = true) (s : State) (v : Word) (f : FlagWrite) :
    OnlyWrites w s ((s.setIdx i v).setFlags f) := (setIdx hi s v).trans (setFlags hw _ f)

theorem setSp (hw : w.sp = true) (s : State) (v : Word) : OnlyWrites w s (s.setSp v) :=
  of_cpu (by constructor <;> simp [hw])

theorem setPc (s : State) (v : Addr) : OnlyWrites w s (s.setPc v) := of_cpu (by constructor <;> simp)

theorem setXpc (hw : w.xpc = true) (s : State) (v : Byte) : OnlyWrites w s (s.setXpc v) :=
  of_cpu (by constructor <;> simp [hw])

theorem setIp (hw : w.ip = true) (s : State) (v : Byte) : OnlyWrites w s (s.setIp v) :=
  of_cpu (by constructor <;> simp [hw])

theorem setIir (hw : w.iir = true) (s : State) (v : Byte) : OnlyWrites w s (s.setIir v) :=
  of_cpu (by constructor <;> simp [hw])

theorem setEir (hw : w.eir = true) (s : State) (v : Byte) : OnlyWrites w s (s.setEir v) :=
  of_cpu (by constructor <;> simp [hw])

theorem onMain (hw : w.flags = true) (s : State) (g : Bank → Bank) : OnlyWrites w s (s.onMain g) :=
  of_cpu (by constructor <;> simp [hw])

theorem onAlt_set16 (hw : w.alt = true) (s : State) (q : Pair) (v : Word) :
    OnlyWrites w s (s.onAlt fun k => k.set16 q v) :=
  of_cpu (by cases q <;> constructor <;> simp [hw, Bank.set16])

theorem jumpIf (s : State) (c : Bool) (a : Addr) : OnlyWrites w s (jumpIf c a s) := by
  cases c
  · exact refl s
  · exact setPc s a

theorem addSp (hsp : w.sp = true) (hw : w.flags = true) (d : Byte) (s : State) : OnlyWrites w s (addSp d s) :=
  (setSp hsp ..).trans (setFlags hw ..)

theorem decJump (k : Byte) (s : State) : OnlyWrites w s (decJump k s) := (dst8 ..).trans (jumpIf ..)

/-! ## The exchanges -/

theorem exchangeAF (ha : w.alt = true) (hf : w.flags = true) (s : State) : OnlyWrites w s (exchangeAF s) :=
  of_cpu (by constructor <;> simp [ha, hf])

theorem exchangeBanks (ha : w.alt = true) (s : State) : OnlyWrites w s (exchangeBanks s) :=
  of_cpu (by constructor <;> simp [ha])

/-- `EX DE,HL` writes the alternate bank under ALTD only. -/
theorem exchangeHL {altDe : Bool} (ha : altDe = true → w.alt = true) (s : State) :
    OnlyWrites w s (Machine.exchangeHL altDe s) := by
  unfold Machine.exchangeHL
  split
  all_goals exact of_cpu (by constructor <;> simp_all [Bank.set16])

/-! ## The data accesses -/

theorem readsAs {sp : Option IoSpace} {a : Addr} {v : Byte} {s t : State} (h : ReadsAs sp a v s t) : OnlyWrites w s t := by
  obtain ⟨es, rfl⟩ := h.state
  exact ⟨rfl, rfl, rfl, rfl, rfl, rfl, ⟨es, rfl⟩, id, .refl _ _⟩

theorem readsWordAs {sp : Option IoSpace} {a : Addr} {v : Word} {s t : State} (h : ReadsWordAs sp a v s t) :
    OnlyWrites w s t := by
  obtain ⟨es, rfl⟩ := h.state
  exact ⟨rfl, rfl, rfl, rfl, rfl, rfl, ⟨es, rfl⟩, id, .refl _ _⟩

theorem memWrite (a : Addr) (v : Byte) (s : State) : OnlyWrites w s (memWrite a v s) :=
  ⟨rfl, rfl, rfl, rfl, rfl, rfl, ⟨[], (List.append_nil _).symm⟩, memWrite_wf a v s, .refl _ _⟩

theorem stored (sp : Option IoSpace) (a : Addr) (v : Byte) (s : State) : OnlyWrites w s (stored sp a v s) := by
  cases sp with
  | none => exact memWrite a v s
  | some p => exact ⟨rfl, rfl, rfl, rfl, rfl, rfl, ⟨_, rfl⟩, id, .refl _ _⟩

theorem storedWord (sp : Option IoSpace) (a : Addr) (v : Word) (s : State) : OnlyWrites w s (storedWord sp a v s) :=
  (stored ..).trans (stored ..)

theorem dstWrite (a : Addr) (v : Byte) (s : State) : OnlyWrites w s (dstWrite a v s) :=
  dstWrite_eq_stored a v s ▸ stored ..

theorem dstWrite16 (a : Addr) (v : Word) (s : State) : OnlyWrites w s (dstWrite16 a v s) :=
  dstWrite16_eq_storedWord a v s ▸ storedWord ..

theorem memWrite16 (a : Addr) (v : Word) (s : State) : OnlyWrites w s (memWrite16 a v s) :=
  (memWrite ..).trans (memWrite ..)

theorem call (hw : w.sp = true) (a : Addr) (s : State) : OnlyWrites w s (call a s) :=
  (((memWrite ..).trans (memWrite ..)).trans (setSp hw ..)).trans (setPc ..)

theorem moveOne (hw : w.flags = true) {dir : Word} {s t : State} (h : moveOne dir s = .next t) : OnlyWrites w s t := by
  obtain ⟨v, -, rfl⟩ := moveOne_next h
  exact (stored ..).trans (onMain hw ..)

theorem longCall (hsp : w.sp = true) (hxpc : w.xpc = true) {x : Byte} {mn : Addr} {s t : State}
    (h : longCall x mn s = .next t) : OnlyWrites w s t := by
  unfold Machine.longCall at h
  split at h
  · cases h
  · obtain rfl := Host.Outcome.next.inj h
    exact (((((memWrite ..).trans (memWrite ..)).trans (memWrite ..)).trans (setSp hsp ..)).trans (setXpc hxpc ..)).trans
      (setPc ..)

end OnlyWrites

/-- The forms that a row's meaning has in the state `s`. Each says how the row reaches memory and I/O spaces; what it
does with a value it read is `k`, which writes only what the row may write. -/
inductive Form (i : Instr) (s : State) : Out → Prop
  | next {t : State} (h : OnlyWrites i.written s t) : Form i s (.next t)
  | read {a : Addr} {k : Byte → State → State} (hk : ∀ v u, OnlyWrites i.written u (k v u)) : Form i s (onAt a k s)
  | readWord {a : Addr} {k : Word → State → State} (hk : ∀ v u, OnlyWrites i.written u (k v u)) : Form i s (onAt16 a k s)
  | readStack {n : Byte} {k : Word → State → State} (hk : ∀ v u, OnlyWrites i.written u (k v u)) :
      Form i s (onAtSP16 n k s)
  | exchange {v : Word} {k : Word → State → State} (hk : ∀ v u, OnlyWrites i.written u (k v u)) : Form i s (exAtSP v k s)
  | modify {x : Index} {d : Byte} {f : Byte → Byte × FlagWrite} (hf : i.written.flags = true) : Form i s (stepAtIdx x d f s)
  | bugRead {k : Byte → State → State} (hb : i.bugRow = true) (hk : ∀ v u, OnlyWrites i.written u (k v u)) :
      Form i s (onAtHLBug k s)
  | bugWrite {a : Addr} {v : Byte} (hb : i.bugRow = true) : Form i s (bugWrite a v s)
  | bugModify {f : Byte → Byte × FlagWrite} (hb : i.bugRow = true) (hf : i.written.flags = true) : Form i s (stepAtHL f s)
  | move {dir : Word} (hf : i.written.flags = true) : Form i s (moveOne dir s)
  | moveRepeat {dir : Word} (hf : i.written.flags = true) : Form i s (blockRepeat dir s)
  | longCall {x : Byte} {mn : Addr} (hi : i = .lcallxmn x mn) : Form i s (longCall x mn s)

/-- The form of every row but the prefix rows. -/
theorem exec_form (i : Instr) (s : State) (hi : i.isPfx = false) : Form i s (exec i s) := by
  cases i with
  | adcAAtHL | addAAtHL | andAtHL => exact .bugRead rfl fun _ _ => .dst8_setFlags rfl ..
  | adcAAtIXd _ | adcAAtIYd _ | addAAtIXd _ | addAAtIYd _ | andAtIXd _ | andAtIYd _ =>
    exact .read fun _ _ => .dst8_setFlags rfl ..
  | adcAn _ | adcAB | adcAC | adcAD | adcAE | adcAH | adcAL | adcAA | addAn _ | addAB | addAC | addAD | addAE
  | addAH | addAL | addAA | andn _ | andB | andC | andD | andE | andH | andL | andA | decB | decC | decD | decE
  | decH | decL | decA | incB | incC | incD | incE | incH | incL | incA | ldAEIR | ldAIIR =>
    exact .next (.dst8_setFlags rfl ..)
  | adcHLBC | adcHLDE | adcHLHL | adcHLSP | addHLBC | addHLDE | addHLHL | addHLSP | andHLDE | boolHL =>
    exact .next (.dst16_setFlags rfl ..)
  | addIXBC | addIXDE | addIXIX | addIXSP | addIYBC | addIYDE | addIYIY | addIYSP | andIXDE | andIYDE | boolIX
  | boolIY => exact .next (.setIdx_setFlags rfl rfl ..)
  | addSPd _ => exact .next (.addSp rfl rfl ..)
  | altd | ioe | ioi => exact absurd hi (by decide)
  | bit0AtHL | bit1AtHL | bit2AtHL | bit3AtHL | bit4AtHL | bit5AtHL | bit6AtHL | bit7AtHL | bit0AtIXd _
  | bit1AtIXd _ | bit2AtIXd _ | bit3AtIXd _ | bit4AtIXd _ | bit5AtIXd _ | bit6AtIXd _ | bit7AtIXd _ | bit0AtIYd _
  | bit1AtIYd _ | bit2AtIYd _ | bit3AtIYd _ | bit4AtIYd _ | bit5AtIYd _ | bit6AtIYd _ | bit7AtIYd _ | cpAtIXd _
  | cpAtIYd _ => exact .read fun _ _ => .setFlags rfl ..
  | bit0B | bit0C | bit0D | bit0E | bit0H | bit0L | bit0A | bit1B | bit1C | bit1D | bit1E | bit1H | bit1L | bit1A
  | bit2B | bit2C | bit2D | bit2E | bit2H | bit2L | bit2A | bit3B | bit3C | bit3D | bit3E | bit3H | bit3L | bit3A
  | bit4B | bit4C | bit4D | bit4E | bit4H | bit4L | bit4A | bit5B | bit5C | bit5D | bit5E | bit5H | bit5L | bit5A
  | bit6B | bit6C | bit6D | bit6E | bit6H | bit6L | bit6A | bit7B | bit7C | bit7D | bit7E | bit7H | bit7L | bit7A
  | ccf | cpn _ | cpB | cpC | cpD | cpE | cpH | cpL | cpA => exact .next (.setFlags rfl ..)
  | callmn _ => exact .next (.call rfl ..)
  | cpAtHL => exact .bugRead rfl fun _ _ => .setFlags rfl ..
  | cpl | ldAXPC | ldBn _ | ldCn _ | ldDn _ | ldEn _ | ldHn _ | ldLn _ | ldAn _ | ldBB | ldBC | ldBD | ldBE | ldBH
  | ldBL | ldBA | ldCB | ldCC | ldCD | ldCE | ldCH | ldCL | ldCA | ldDB | ldDC | ldDD | ldDE | ldDH | ldDL | ldDA
  | ldEB | ldEC | ldED | ldEE | ldEH | ldEL | ldEA | ldHB | ldHC | ldHD | ldHE | ldHH | ldHL | ldHA | ldLB | ldLC
  | ldLD | ldLE | ldLH | ldLL | ldLA | ldAB | ldAC | ldAD | ldAE | ldAH | ldAL | ldAA => exact .next (.dst8 ..)
  | decAtHL | incAtHL => exact .bugModify rfl rfl
  | decAtIXd _ | decAtIYd _ | incAtIXd _ | incAtIYd _ => exact .modify rfl
  | decIX | decIY | incIX | incIY | ldIXHL | ldIXmn _ | ldIYHL | ldIYmn _ => exact .next (.setIdx rfl ..)
  | decBC | decDE | decHL | incBC | incDE | incHL | ldBCmn _ | ldDEmn _ | ldHLmn _ | ldHLIX | ldHLIY =>
    exact .next (.dst16 ..)
  | decSP | incSP | ldSPmn _ | ldSPHL | ldSPIX | ldSPIY => exact .next (.setSp rfl ..)
  | djnze _ => exact .next (.decJump ..)
  | exAtSPHL => exact .exchange fun _ _ => .dst16 ..
  | exAtSPIX | exAtSPIY => exact .exchange fun _ _ => .setIdx rfl ..
  | exAFAFalt => exact .next (.exchangeAF rfl rfl _)
  | exDEHL => exact .next (.exchangeHL Bool.noConfusion _)
  | exDEaltHL => exact .next (.exchangeHL (fun _ => rfl) _)
  | exx => exact .next (.exchangeBanks rfl _)
  | ipset0 | ipset1 | ipset2 | ipset3 | ipres => exact .next (.setIp rfl ..)
  | jpAtHL | jpAtIX | jpAtIY | jpmn _ | jre _ => exact .next (.setPc ..)
  | jpNZmn _ | jpZmn _ | jpNCmn _ | jpCmn _ | jpLZmn _ | jpLOmn _ | jpPmn _ | jpMmn _ | jrNZe _ | jrZe _ | jrNCe _
  | jrCe _ => exact .next (.jumpIf ..)
  | lcallxmn _ _ => exact .longCall rfl
  | ldAtBCA | ldAtDEA | ldAtHLn _ | ldAtIXdn _ _ | ldAtIXdB _ | ldAtIXdC _ | ldAtIXdD _ | ldAtIXdE _ | ldAtIXdH _
  | ldAtIXdL _ | ldAtIXdA _ | ldAtIYdn _ _ | ldAtIYdB _ | ldAtIYdC _ | ldAtIYdD _ | ldAtIYdE _ | ldAtIYdH _
  | ldAtIYdL _ | ldAtIYdA _ | ldAtmnA _ => exact .next (.dstWrite ..)
  | ldAtHLB | ldAtHLC | ldAtHLD | ldAtHLE | ldAtHLH | ldAtHLL | ldAtHLA => exact .bugWrite rfl
  | ldAtHLdHL _ | ldAtIXdHL _ | ldAtIYdHL _ | ldAtmnHL _ | ldAtmnIX _ | ldAtmnIY _ | ldAtmnBC _ | ldAtmnDE _
  | ldAtmnHLed _ | ldAtmnSP _ => exact .next (.dstWrite16 ..)
  | ldAtSPnHL _ | ldAtSPnIX _ | ldAtSPnIY _ => exact .next (.memWrite16 ..)
  | ldAAtBC | ldAAtDE | ldAAtmn _ | ldBAtIXd _ | ldCAtIXd _ | ldDAtIXd _ | ldEAtIXd _ | ldHAtIXd _ | ldLAtIXd _
  | ldAAtIXd _ | ldBAtIYd _ | ldCAtIYd _ | ldDAtIYd _ | ldEAtIYd _ | ldHAtIYd _ | ldLAtIYd _ | ldAAtIYd _ =>
    exact .read fun _ _ => .dst8 ..
  | ldBCAtmn _ | ldDEAtmn _ | ldHLAtmn _ | ldHLAtHLd _ | ldHLAtIXd _ | ldHLAtIYd _ =>
    exact .readWord fun _ _ => .dst16 ..
  | ldSPAtmn _ => exact .readWord fun _ _ => .setSp rfl ..
  | ldBCaltBC | ldDEaltBC | ldHLaltBC | ldBCaltDE | ldDEaltDE | ldHLaltDE => exact .next (.onAlt_set16 rfl ..)
  | ldEIRA => exact .next (.setEir rfl ..)
  | ldIIRA => exact .next (.setIir rfl ..)
  | ldHLAtSPn _ => exact .readStack fun _ _ => .dst16 ..
  | ldIXAtmn _ | ldIYAtmn _ => exact .readWord fun _ _ => .setIdx rfl ..
  | ldIXAtSPn _ | ldIYAtSPn _ => exact .readStack fun _ _ => .setIdx rfl ..
  | ldBAtHL | ldCAtHL | ldDAtHL | ldEAtHL | ldHAtHL | ldLAtHL | ldAAtHL => exact .bugRead rfl fun _ _ => .dst8 ..
  | ldXPCA => exact .next (.setXpc rfl ..)
  | ldd | ldi => exact .move rfl
  | lddr | ldir => exact .moveRepeat rfl

/-- A next state differs from the state before only where the row may write. -/
theorem Form.onlyWrites {i : Instr} {s t : State} {x : Out} (hx : Form i s x) (h : x = .next t) :
    OnlyWrites i.written s t := by
  cases hx with
  | next hw => exact Host.Outcome.next.inj h ▸ hw
  | read hk =>
    obtain ⟨v, u, hr, rfl⟩ := (onAt_next_iff ..).mp h
    exact (OnlyWrites.readsAs hr).trans (hk v u)
  | readWord hk =>
    obtain ⟨v, u, hr, rfl⟩ := (onAt16_next_iff ..).mp h
    exact (OnlyWrites.readsWordAs hr).trans (hk v u)
  | readStack hk =>
    obtain ⟨v, u, hr, rfl⟩ := (onAtSP16_next_iff ..).mp h
    exact (OnlyWrites.readsWordAs hr).trans (hk v u)
  | exchange hk =>
    obtain ⟨v, u, hr, rfl⟩ := (exAtSP_next_iff ..).mp h
    exact ((OnlyWrites.readsWordAs hr).trans (.storedWord ..)).trans (hk v _)
  | modify hf =>
    obtain ⟨v, u, hr, rfl⟩ := (stepAtIdx_next_iff ..).mp h
    exact ((OnlyWrites.readsAs hr).trans (.stored ..)).trans (.setFlags hf ..)
  | bugRead hb hk =>
    obtain ⟨-, v, u, hr, rfl⟩ := (onAtHLBug_next_iff ..).mp h
    exact (OnlyWrites.readsAs hr).trans (hk v u)
  | bugWrite hb =>
    obtain ⟨-, rfl⟩ := (bugWrite_next_iff ..).mp h
    exact .stored ..
  | bugModify hb hf =>
    obtain ⟨-, v, u, hr, rfl⟩ := (stepAtHL_next_iff ..).mp h
    exact ((OnlyWrites.readsAs hr).trans (.stored ..)).trans (.setFlags hf ..)
  | move hf => exact .moveOne hf h
  | moveRepeat hf =>
    obtain ⟨u, hu, rfl⟩ := blockRepeat_next h
    exact (OnlyWrites.moveOne hf hu).trans (.jumpIf ..)
  | longCall hi => exact .longCall (hi ▸ rfl) (hi ▸ rfl) h

/-- No row but a prefix row writes anything but what the tables name for it. -/
theorem exec_onlyWrites {i : Instr} {s t : State} (hi : i.isPfx = false) (h : exec i s = .next t) :
    OnlyWrites i.written s t := (exec_form i s hi).onlyWrites h

/-- A prefix row writes its part of the context and nothing else. -/
theorem exec_pfx_next {i : Instr} {s t : State} (hi : i.isPfx = true) (h : exec i s = .next t) :
    t = { s with altd := t.altd, io := t.io } := by
  obtain ⟨haltd, hioi, hioe⟩ := prefixRowsSetTheContext s
  rcases Instr.isPfx_cases hi with rfl | rfl | rfl
  · obtain rfl := Host.Outcome.next.inj (haltd.symm.trans h); rfl
  · obtain rfl := Host.Outcome.next.inj (hioi.symm.trans h); rfl
  · obtain rfl := Host.Outcome.next.inj (hioe.symm.trans h); rfl

/-- Over every row, the registers that it may not write are as they were. -/
theorem exec_cpuOnly {i : Instr} {s t : State} (h : exec i s = .next t) : CpuOnly i.written s.altd s.cpu t.cpu := by
  cases hi : i.isPfx with
  | false => exact (exec_onlyWrites hi h).cpu
  | true => rw [exec_pfx_next hi h]; exact .refl _ _

/-- Settles O16. -/
theorem controlAndIndexRegistersWrittenOnlyByTheirRows :
    Obligations.ControlAndIndexRegistersWrittenOnlyByTheirRows := fun _ _ _ h =>
  have hcpu := exec_cpuOnly h
  ⟨hcpu.ip, hcpu.xpc, fun hi => hcpu.iir (decide_eq_false hi), fun hi => hcpu.eir (decide_eq_false hi), hcpu.sp, hcpu.ix,
    hcpu.iy⟩

/-- Settles O17. -/
theorem otherInstructionsWriteNoFlag : Obligations.OtherInstructionsWriteNoFlag := fun _ _ _ h hw hne =>
  (exec_cpuOnly h).flags (Bool.or_eq_false_iff.mpr ⟨hw, decide_eq_false hne⟩)

/-- Settles O18. -/
theorem alternateRegistersWrittenOnlyByTheirRows : Obligations.AlternateRegistersWrittenOnlyByTheirRows :=
  fun _ _ _ h haltd hw => (exec_cpuOnly h).alt hw haltd

end Machine

end Sys2Proof
end

section
/-! SUPPORT. Where an instruction can stop (R400). -/

namespace Sys2Proof.Machine

open Expect

/-- The outcome stops, if it does, with a refusal that `R` allows or with a fault at a cell that holds no value in `s`. -/
def StopsOnly {α : Type} (R : Refusal → Prop) (s : State) (x : Host.Outcome α Fault Refusal) : Prop :=
  (∀ r, x = .refused r → R r) ∧ ∀ f, x = .fault f → ∃ a, f = .unwrittenCell a ∧ s.peek a = none

variable {R : Refusal → Prop} {s : State}

theorem stopsOnly_next {α : Type} (v : α) : StopsOnly R s (.next v) := ⟨nofun, nofun⟩

theorem StopsOnly.bind {α β : Type} {x : Access α} {k : α → State → Host.Outcome β Fault Refusal} (hx : StopsOnly R s x)
    (hk : ∀ v t, x = .next (v, t) → StopsOnly R s (k v t)) : StopsOnly R s (x.bind k) := by
  constructor
  · intro r h
    rcases Access.bind_refused h with h | ⟨v, t, hnext, h⟩
    · exact hx.1 r h
    · exact (hk v t hnext).1 r h
  · intro f h
    rcases Access.bind_fault h with h | ⟨v, t, hnext, h⟩
    · exact hx.2 f h
    · exact (hk v t hnext).2 f h

/-- After an access that answered, every way on completes. -/
theorem StopsOnly.bind_next {α β : Type} {x : Access α} {k : α → State → β} (hx : StopsOnly R s x) :
    StopsOnly R s (x.bind fun v t => .next (k v t)) := hx.bind fun _ _ _ => stopsOnly_next _

theorem StopsOnly.onNext {x : Out} {k : State → State} (hx : StopsOnly R s x) : StopsOnly R s (onNext x k) :=
  ⟨fun r h => hx.1 r (onNext_refused h), fun f h => hx.2 f (onNext_fault h)⟩

/-! ## The accesses -/

theorem stopsOnly_readFrom (sp : Option IoSpace) (a : Addr) : StopsOnly R s (readFrom sp a s) :=
  ⟨fun _ h => absurd h readFrom_not_refused, fun _ h => ⟨a, (readFrom_fault h).2⟩⟩

theorem stopsOnly_read16 (sp : Option IoSpace) {rd : Addr → State → Access Byte}
    (hrd : ∀ b u, u.io = s.io → rd b u = readFrom sp b u) (a : Addr) : StopsOnly R s (read16 rd a s) :=
  ⟨fun _ h => absurd h (read16_not_refused hrd), fun _ h => read16_fault hrd h⟩

theorem stopsOnly_srcRead16 (a : Addr) : StopsOnly R s (read16 srcRead a s) :=
  stopsOnly_read16 s.io (fun b u h => by rw [srcRead, h]) a

theorem stopsOnly_memRead16 (a : Addr) : StopsOnly R s (read16 memRead a s) :=
  stopsOnly_read16 none (fun _ _ _ => rfl) a

theorem bugRefused_iff (s : State) : bugRefused s = true ↔ bugMeaningless s := by
  simp [bugRefused, bugMeaningless, Option.isSome_iff_ne_none]

/-- The accesses of the twelve are refused in the one case that has no meaning (R260). -/
theorem stopsOnly_bugRead (hR : bugMeaningless s → R .altdAfterIo) (a : Addr) : StopsOnly R s (bugRead a s) :=
  ⟨fun _ h => have ⟨hr, hs⟩ := bugRead_refused h; hr ▸ hR ((bugRefused_iff s).mp hs), fun _ h => ⟨a, bugRead_fault h⟩⟩

theorem stopsOnly_bugWrite {t : State} (hR : bugMeaningless t → R .altdAfterIo) (a : Addr) (v : Byte) :
    StopsOnly R s (bugWrite a v t) :=
  ⟨fun _ h => have ⟨hr, hs⟩ := bugWrite_refused h; hr ▸ hR ((bugRefused_iff t).mp hs),
    fun _ h => absurd h bugWrite_not_fault⟩

theorem stopsOnly_stepAtHL (hR : bugMeaningless s → R .altdAfterIo) (f : Byte → Byte × FlagWrite) :
    StopsOnly R s (stepAtHL f s) := by
  refine (stopsOnly_bugRead hR _).bind fun v t ht => (stopsOnly_bugWrite (fun h => hR ?_) _ _).onNext
  obtain ⟨-, hread⟩ := (bugRead_next_iff ..).mp ht
  obtain ⟨es, rfl⟩ := hread.state
  exact h

theorem stopsOnly_moveOne (dir : Word) : StopsOnly R s (moveOne dir s) := (stopsOnly_readFrom none _).bind_next

theorem stopsOnly_longCall (x : Byte) {mn : Addr} (hR : mn.toNat < 0xE000 → R (.lcallTarget mn)) :
    StopsOnly R s (longCall x mn s) := by
  unfold longCall
  split
  · rename_i hmn
    exact ⟨fun r h => Host.Outcome.refused.inj h ▸ hR hmn, nofun⟩
  · exact stopsOnly_next _

/-! ## The rows -/

/-- The refusals the spec names for a row: the target of `LCALL` (R292), and a member of the twelve under ALTD and the
latch (R260). -/
def NamedRefusal (i : Instr) (s : State) (r : Refusal) : Prop :=
  (∃ x mn, i = .lcallxmn x mn ∧ mn.toNat < 0xE000 ∧ r = .lcallTarget mn) ∨
  (i.bugRow = true ∧ bugMeaningless s ∧ r = .altdAfterIo)

theorem Form.stops {i : Instr} {x : Out} (hx : Form i s x) : StopsOnly (NamedRefusal i s) s x := by
  have twelve (hb : i.bugRow = true) (hs : bugMeaningless s) : NamedRefusal i s .altdAfterIo := .inr ⟨hb, hs, rfl⟩
  cases hx with
  | next h => exact stopsOnly_next _
  | read hk => exact (stopsOnly_readFrom ..).bind_next
  | readWord hk => exact (stopsOnly_srcRead16 _).bind_next
  | readStack hk => exact (stopsOnly_memRead16 _).bind_next
  | exchange hk => exact (stopsOnly_memRead16 _).bind_next
  | modify hf => exact (stopsOnly_readFrom ..).bind_next
  | bugRead hb hk => exact (stopsOnly_bugRead (twelve hb) _).bind_next
  | bugWrite hb => exact stopsOnly_bugWrite (twelve hb) _ _
  | bugModify hb hf => exact stopsOnly_stepAtHL (twelve hb) _
  | move hf => exact stopsOnly_moveOne _
  | moveRepeat hf => exact (stopsOnly_moveOne _).onNext
  | longCall hi => exact stopsOnly_longCall _ fun hmn => .inl ⟨_, _, hi, hmn, rfl⟩

theorem exec_stops (i : Instr) (s : State) : StopsOnly (NamedRefusal i s) s (exec i s) := by
  cases hi : i.isPfx with
  | false => exact (exec_form i s hi).stops
  | true =>
    obtain ⟨haltd, hioi, hioe⟩ := prefixRowsSetTheContext s
    rcases Instr.isPfx_cases hi with rfl | rfl | rfl
    · exact haltd ▸ stopsOnly_next _
    · exact hioi ▸ stopsOnly_next _
    · exact hioe ▸ stopsOnly_next _

/-- Settles O19. -/
theorem noOtherStops : Obligations.NoOtherStops := exec_stops

/-! ## The twelve under ALTD and the latch (R260) -/

theorem onAtHLBug_refused (h : bugRefused s = true) (k : Byte → State → State) : onAtHLBug k s = .refused .altdAfterIo := by
  rw [onAtHLBug, bugRead, if_pos h]
  rfl

theorem bugWrite_refused_of (h : bugRefused s = true) (a : Addr) (v : Byte) : bugWrite a v s = .refused .altdAfterIo :=
  if_pos h

theorem stepAtHL_refused (h : bugRefused s = true) (f : Byte → Byte × FlagWrite) : stepAtHL f s = .refused .altdAfterIo := by
  rw [stepAtHL, bugRead, if_pos h]
  rfl

/-- Settles O20: each of the rows reads, writes or modifies `(HL)` by an access that is refused. -/
theorem twelveRefusedUnderAltdAndLatch : Obligations.TwelveRefusedUnderAltdAndLatch := by
  intro i s hrow hs
  have h := (bugRefused_iff s).mpr hs
  cases i with
  | adcAAtHL | addAAtHL | andAtHL | cpAtHL => exact onAtHLBug_refused h _
  | ldAAtHL | ldBAtHL | ldCAtHL | ldDAtHL | ldEAtHL | ldHAtHL | ldLAtHL => exact onAtHLBug_refused h _
  | ldAtHLA | ldAtHLB | ldAtHLC | ldAtHLD | ldAtHLE | ldAtHLH | ldAtHLL => exact bugWrite_refused_of h _ _
  | decAtHL | incAtHL => exact stepAtHL_refused h _
  | _ => cases hrow

end Sys2Proof.Machine
end

section
/-! SUPPORT. The end of an instruction and the interrupt boundary (R401 to R410), and what a step keeps. -/

namespace Sys2Proof.Machine

open Expect

/-! ## The request that is offered (R409) -/

theorem rank_eq_toNat (p : Priority) : rank p = p.value.toNat := by cases p <;> rfl

/-- The processor priority as a number (R38). -/
theorem priority_toNat (s : State) : s.priority.toNat = s.cpu.ip.toNat % 4 := by
  rw [State.priority, BitVec.extractLsb'_toNat, Nat.shiftRight_zero]

/-- A request is above the processor priority (R402). -/
theorem priority_lt_iff (s : State) (q : IntRequest) :
    s.priority < q.priority.value ↔ s.cpu.ip.toNat % 4 < rank q.priority := by
  rw [BitVec.lt_def, priority_toNat, rank_eq_toNat]

theorem pickRequest_eq_none {l : List IntRequest} (h : pickRequest l = none) : l = [] := by
  cases l with
  | nil => rfl
  | cons q t =>
    rw [pickRequest] at h
    split at h
    · cases h
    · split at h <;> cases h

/-- What is offered is pending, and nothing pending has a higher priority. -/
theorem pickRequest_spec {l : List IntRequest} {q : IntRequest} (h : pickRequest l = some q) :
    q ∈ l ∧ ∀ r ∈ l, rank r.priority ≤ rank q.priority := by
  induction l generalizing q with
  | nil => cases h
  | cons p t ih =>
    rw [pickRequest] at h
    split at h
    next hnone =>
      obtain rfl := Option.some.inj h
      rw [pickRequest_eq_none hnone]
      simp
    next best hbest =>
      obtain ⟨hmem, hmax⟩ := ih hbest
      split at h
      next hlt =>
        obtain rfl := Option.some.inj h
        rw [BitVec.lt_def, ← rank_eq_toNat, ← rank_eq_toNat] at hlt
        exact ⟨List.mem_cons_of_mem _ hmem, List.forall_mem_cons.mpr ⟨hlt.le, hmax⟩⟩
      next hge =>
        obtain rfl := Option.some.inj h
        rw [BitVec.lt_def, ← rank_eq_toNat, ← rank_eq_toNat, Nat.not_lt] at hge
        exact ⟨List.mem_cons_self, List.forall_mem_cons.mpr ⟨le_rfl, fun r hr => (hmax r hr).trans hge⟩⟩

/-! ## The boundary (R403) -/

theorem interruptBoundary_empty {s : State} {later : List (List IntRequest)} (h : s.intRequests = [] :: later) :
    interruptBoundary false s = { s with intRequests := later } := by
  simp [interruptBoundary, h, pickRequest]

theorem interruptBoundary_pending {s : State} {pending : List IntRequest} {later : List (List IntRequest)} {q : IntRequest}
    (h : s.intRequests = pending :: later) (hq : pickRequest pending = some q) :
    interruptBoundary false s =
      if s.cpu.ip.toNat % 4 < rank q.priority then takeInterrupt q s.cpu.pc { s with intRequests := later }
      else { s with intRequests := later } := by
  simp only [interruptBoundary, h, hq, priority_lt_iff]

/-- What the boundary can do: use up an answer of `IntRequest` at most, or take a pending request that is above the
processor priority. -/
theorem interruptBoundary_inv (priv : Bool) (s : State) :
    (∃ later, interruptBoundary priv s = { s with intRequests := later }) ∨
    ∃ pending later q, s.intRequests = pending :: later ∧ q ∈ pending ∧ s.cpu.ip.toNat % 4 < rank q.priority ∧
      interruptBoundary priv s = takeInterrupt q s.cpu.pc { s with intRequests := later } := by
  cases priv with
  | true => exact .inl ⟨s.intRequests, rfl⟩
  | false =>
    cases hr : s.intRequests with
    | nil => exact .inl ⟨s.intRequests, interruptBoundary_none false s hr⟩
    | cons pending later =>
      cases hp : pickRequest pending with
      | none => exact .inl ⟨later, interruptBoundary_empty (pickRequest_eq_none hp ▸ hr)⟩
      | some q =>
        have hb := interruptBoundary_pending hr hp
        split at hb
        next hq => exact .inr ⟨pending, later, q, rfl, (pickRequest_spec hp).1, hq, hb⟩
        next => exact .inl ⟨later, hb⟩

/-- Settles O46: the boundary offers what `pickRequest` picks. -/
theorem interruptAcceptance : Obligations.InterruptAcceptance := by
  intro i s pending later hpriv hreq
  have hreq' : (endInstr s).intRequests = pending :: later := hreq
  refine ⟨fun hempty => ?nothing, fun hsome => ?request⟩
  case nothing =>
    subst hempty
    rw [finishInstr, hpriv, interruptBoundary_empty hreq']
    rfl
  case request =>
    obtain ⟨q, hq⟩ := Option.ne_none_iff_exists'.mp fun hnone => hsome (pickRequest_eq_none hnone)
    obtain ⟨hmem, hmax⟩ := pickRequest_spec hq
    have hb := interruptBoundary_pending hreq' hq
    refine ⟨q, hmem, hmax, fun habove => ?_, fun hnot => ?_⟩
    · rw [if_pos (by exact habove)] at hb
      rw [finishInstr, hpriv, hb]
      rfl
    · rw [if_neg (by exact Nat.not_lt.mpr hnot)] at hb
      rw [finishInstr, hpriv, hb]
      rfl

/-- Settles O47: the rows are those the definition lists, and the boundary after one does nothing. -/
theorem noInterruptAfterAPrivilegedInstruction : Obligations.NoInterruptAfterAPrivilegedInstruction := by
  refine ⟨fun i => ⟨fun h => ?_, fun h => ?_⟩, fun i s h => ?_⟩
  · unfold privileged at h
    split at h <;> simp_all
  · revert i
    decide
  · rw [finishInstr, h]
    rfl

/-- Settles O48. -/
theorem interruptEntryClearsTheLatch : Obligations.InterruptEntryClearsTheLatch :=
  ⟨fun q ret s => ⟨rfl, rfl, rfl, rfl, rfl, Memory.canonical_read _, fun _ => Memory.canonical_read _ _,
    takeInterrupt_wf q ret s, rfl, historyAfter_extends _ _, rfl, rfl, rfl, rfl⟩,
    Memory.canonical_of_wf, historyAfter_of_extends⟩

/-! ## Over a step -/

/-- A step, its core's effect and what the boundary after it does. -/
theorem step_inv {s t : State} (h : step s = .next t) :
    ∃ (p : Prefixed) (rest : List Byte) (u : State), decode s.fetched = .instr p rest ∧
      OnlyWrites p.core.written (coreStart p s) u ∧ t = settle (interruptBoundary (privileged p.core) (endInstr u)) := by
  obtain ⟨p, rest, u, hd, hcore, hu, rfl⟩ := step_next h
  exact ⟨p, rest, u, hd, exec_onlyWrites hcore hu, rfl⟩

/-- Settles O11: the row keeps memory canonical, and the end of an instruction clears the context. -/
theorem everyStepKeepsTheInvariant : Obligations.EveryStepKeepsTheInvariant := by
  rintro s t ⟨hwf, -⟩ h
  obtain ⟨p, -, u, -, hu, rfl⟩ := step_inv h
  rcases interruptBoundary_inv (privileged p.core) (endInstr u) with ⟨later, hb⟩ | ⟨_, later, q, -, -, -, hb⟩
  · rw [hb]
    exact ⟨hu.mem hwf, rfl, rfl, rfl⟩
  · rw [hb]
    exact ⟨takeInterrupt_wf .., rfl, rfl, rfl⟩

/-- Settles O13: a row keeps all of it, and a step differs only by the entry of a pending request. -/
theorem onlyInterruptEntryChangesTheMapping : Obligations.OnlyInterruptEntryChangesTheMapping := by
  constructor
  · intro i s t h
    cases hi : i.isPfx with
    | false =>
      have hw := exec_onlyWrites hi h
      exact ⟨hw.mapping, hw.readOnly, hw.ioBug, hw.intRequests, hw.ioTrace⟩
    | true =>
      rw [exec_pfx_next hi h]
      exact ⟨rfl, rfl, rfl, rfl, [], (List.append_nil _).symm⟩
  · intro s t h
    obtain ⟨p, -, u, -, hu, rfl⟩ := step_inv h
    obtain ⟨es, hes⟩ := hu.ioTrace
    rcases interruptBoundary_inv (privileged p.core) (endInstr u) with
      ⟨later, hb⟩ | ⟨pending, later, q, hreq, hmem, habove, hb⟩
    · rw [hb]
      exact ⟨⟨es, hes⟩, .inl ⟨hu.mapping, hu.readOnly⟩⟩
    · obtain ⟨entry, hentry⟩ := historyAfter_extends u.ioTrace
        (Config.intEntry { endInstr u with intRequests := later } q u.cpu.pc).ioTrace
      rw [hb]
      refine ⟨⟨es ++ entry, ?history⟩, .inr ⟨pending, later, q, { endInstr u with intRequests := later }, ?_, hmem,
        hu.mapping, hu.readOnly, rfl, habove, rfl, rfl⟩⟩
      case history =>
        rw [← List.append_assoc]
        exact hentry.trans (congrArg (· ++ entry) hes)
      exact hu.intRequests.symm.trans hreq

/-- The I/O space of the context is the one whose prefix row stands there, if at most one does. -/
theorem ioContext_none_eq_iff {pfx : List Instr} (h : pfx.countP Instr.isIoPfx ≤ 1) :
    (ioContext pfx none = some .ioi ↔ .ioi ∈ pfx) ∧ (ioContext pfx none = some .ioe ↔ .ioe ∈ pfx) := by
  have hnot : ¬ (.ioi ∈ pfx ∧ .ioe ∈ pfx) := by
    rintro ⟨hioi, hioe⟩
    have hi : .ioi ∈ pfx.filter Instr.isIoPfx := List.mem_filter.mpr ⟨hioi, rfl⟩
    have he : .ioe ∈ pfx.filter Instr.isIoPfx := List.mem_filter.mpr ⟨hioe, rfl⟩
    rw [List.countP_eq_length_filter] at h
    obtain ⟨x, hx⟩ := List.length_eq_one_iff.mp (le_antisymm h (List.length_pos_of_mem hi))
    rw [hx, List.mem_singleton] at hi he
    cases hi.trans he.symm
  by_cases hioi : .ioi ∈ pfx <;> by_cases hioe : .ioe ∈ pfx <;> simp_all [ioContext]

/-- Settles O8. -/
theorem endOfInstructionSetsTheLatch : Obligations.EndOfInstructionSetsTheLatch := by
  have hend : ∀ (i : Instr) (s : State), s.intRequests = [] →
      finishInstr i s = { s with ioBug := s.io, altd := false, io := none, pc0 := s.cpu.pc } := by
    intro i s h
    rw [finishInstr, interruptBoundary_none _ (endInstr s) h]
    rfl
  refine ⟨hend, fun s t p rest hreq hd h => ?_⟩
  obtain ⟨q, r, u, hd', hcore, hu, rfl⟩ := step_next h
  obtain ⟨rfl, rfl⟩ := Decoded.instr.inj (hd.symm.trans hd')
  have hw := exec_onlyWrites hcore hu
  obtain ⟨-, -, -, hio⟩ := decodeAcceptsOnlyEncodings _ _ _ hd
  rw [hend _ u (hw.intRequests.trans hreq)]
  exact hw.io ▸ ioContext_none_eq_iff (of_decide_eq_true hio)

end Sys2Proof.Machine
end

section
/-! SUPPORT. The model's operations in the terms of the statements: registers, destinations, operands, and the flags by
exact arithmetic. -/

namespace Sys2Proof.Machine

open Expect

/-! ## Registers and destinations (R11, R14, R168) -/

theorem Bank.get8_eq (k : Bank) (r : Reg8) : k.get8 r = reg k r := by cases r <;> rfl
theorem Bank.set8_eq (k : Bank) (r : Reg8) (v : Byte) : k.set8 r v = setReg k r v := by cases r <;> rfl
theorem Bank.set16_eq (k : Bank) (q : Pair) (v : Word) : k.set16 q v = setPair k q v := by cases q <;> rfl

theorem State.reg8_eq (s : State) (r : Reg8) : s.reg8 r = reg s.cpu.main r := Bank.get8_eq _ r
theorem State.pair_bc (s : State) : s.pair .bc = bc s.cpu.main := rfl
theorem State.pair_de (s : State) : s.pair .de = de s.cpu.main := rfl
theorem State.ss_eq (s : State) (r : SS) : s.ss r = Expect.ss s.cpu r := by cases r <;> rfl
theorem State.idx_eq (s : State) (i : Index) : s.idx i = index s.cpu i := by cases i <;> rfl
theorem State.xx_eq (s : State) (i : Index) (r : XX) : s.xx i r = Expect.xx s.cpu (index s.cpu i) r := by
  cases r <;> cases i <;> rfl

theorem eaHL_eq (s : State) : eaHL s = hl s.cpu.main := rfl
theorem eaIdx_eq (i : Index) (d : Byte) (s : State) : eaIdx i d s = atIndex s i d := by cases i <;> rfl

/-- A change of the bank a destination goes to. -/
theorem onBank_eq_onDest (s : State) (g : Bank → Bank) : { s with cpu := s.cpu.onBank s.altd g } = s.onDest g := by
  unfold State.onDest
  cases s.altd <;> rfl

theorem State.onDest_onDest (s : State) (g h : Bank → Bank) : (s.onDest g).onDest h = s.onDest fun k => h (g k) := by
  cases hs : s.altd <;> simp [State.onDest, hs]

theorem State.dst8_eq (s : State) (r : Reg8) (v : Byte) : s.dst8 r v = s.onDest fun k => setReg k r v := by
  simp only [State.dst8, Bank.set8_eq, onBank_eq_onDest]

theorem State.dst16_eq (s : State) (q : Pair) (v : Word) : s.dst16 q v = s.onDest fun k => setPair k q v := by
  simp only [State.dst16, Bank.set16_eq, onBank_eq_onDest]

theorem State.setFlags_eq (s : State) (w : FlagWrite) : s.setFlags w = s.onDest fun k => { k with f := k.f.write w } :=
  onBank_eq_onDest s _

theorem State.setSS_eq (s : State) (r : SS) (v : Word) : s.setSS r v = putSS s r v := by
  cases r
  case sp => rfl
  all_goals exact State.dst16_eq s _ v

theorem State.setIdx_eq (s : State) (i : Index) (v : Word) : s.setIdx i v = putIndex s i v := by cases i <;> rfl

/-- A byte result and its flags go to the same bank. -/
theorem dst8_setFlags_eq (s : State) (r : Reg8) (v : Byte) (w : FlagWrite) :
    (s.dst8 r v).setFlags w = s.onDest fun k => { setReg k r v with f := k.f.write w } := by
  rw [State.dst8_eq, State.setFlags_eq, State.onDest_onDest]
  cases r <;> rfl

/-- A word result and its flags go to the same bank. -/
theorem dst16_setFlags_eq (s : State) (q : Pair) (v : Word) (w : FlagWrite) :
    (s.dst16 q v).setFlags w = s.onDest fun k => { setPair k q v with f := k.f.write w } := by
  rw [State.dst16_eq, State.setFlags_eq, State.onDest_onDest]
  cases q <;> rfl

/-! ## The flags (R43 to R53) -/

theorem msb_eq_neg {n : Nat} (x : BitVec n) : x.msb = decide (x.toInt < 0) := BitVec.msb_eq_toInt

theorem add8_eq (a v : Byte) (c : Bool) : (add8 a v c).1 = sum8 a v c := add8_result a v c

theorem write_add8 (f : Flags) (a v : Byte) (c : Bool) : f.write (add8 a v c).2 = sumFlags8 a v c f := by
  have hs : (add8 a v c).2.s = some (sum8 a v c).msb := congrArg (fun r : Byte => some r.msb) (add8_result a v c)
  have hz : (add8 a v c).2.z = some (sum8 a v c == 0) := congrArg (fun r : Byte => some (r == 0)) (add8_result a v c)
  simp only [Flags.write, hs, hz, add8_overflow, add8_carry, Option.getD_some, sumFlags8, msb_eq_neg, beq_eq_decide]

theorem adc16_eq (a v : Word) (c : Bool) : (adc16 a v c).1 = sum16 a v c := adc16_result a v c

theorem write_adc16 (f : Flags) (a v : Word) (c : Bool) : f.write (adc16 a v c).2 = sumFlags16 a v c f := by
  have hs : (adc16 a v c).2.s = some (sum16 a v c).msb := congrArg (fun r : Word => some r.msb) (adc16_result a v c)
  have hz : (adc16 a v c).2.z = some (sum16 a v c == 0) := congrArg (fun r : Word => some (r == 0)) (adc16_result a v c)
  simp only [Flags.write, hs, hz, adc16_overflow, adc16_carry, Option.getD_some, sumFlags16, msb_eq_neg, beq_eq_decide]

theorem add16c_eq (a v : Word) : (add16c a v).1 = sum16 a v false := add16c_result a v

theorem write_add16c (f : Flags) (a v : Word) :
    f.write (add16c a v).2 = { f with c := decide (65536 ≤ a.toNat + v.toNat) } := by
  rw [add16c_flags]; rfl

theorem write_sub8 (f : Flags) (a v : Byte) : f.write (sub8 a v).2 = compareFlags a v f := by
  have hs : (sub8 a v).2.s = some (a - v).msb := congrArg (fun r : Byte => some r.msb) (sub8_result a v)
  have hz : (sub8 a v).2.z = some (a - v == 0) := congrArg (fun r : Byte => some (r == 0)) (sub8_result a v)
  have hzero : decide (a - v = 0) = decide (a = v) := decide_eq_decide.mpr sub_eq_zero
  simp only [Flags.write, hs, hz, sub8_overflow, sub8_borrow, Option.getD_some, compareFlags, msb_eq_neg, beq_eq_decide,
    hzero]

theorem write_and8 (f : Flags) (a v : Byte) : f.write (and8 a v).2 = andFlags8 (a &&& v) f := by
  simp only [Flags.write, and8, lOf8_iff, msb8, Option.getD_some, andFlags8, beq_eq_decide]

theorem write_and16 (f : Flags) (a v : Word) : f.write (and16 a v).2 = andFlags16 (a &&& v) f := by
  simp only [Flags.write, and16, lOf16_iff, msb16, Option.getD_some, andFlags16, beq_eq_decide]

/-- The one byte whose signed successor leaves -128 to 127. -/
theorem eq_max_iff (v : Byte) : v = 0x7F#8 ↔ 127 < v.toInt + 1 := by
  rw [toInt8, ← BitVec.toNat_inj]
  have := v.isLt
  split <;> simp <;> omega

/-- The one byte whose signed predecessor leaves -128 to 127. -/
theorem eq_min_iff (v : Byte) : v = 0x80#8 ↔ v.toInt - 1 < -128 := by
  rw [toInt8, ← BitVec.toNat_inj]
  have := v.isLt
  split <;> simp <;> omega

theorem write_inc8 (f : Flags) (v : Byte) : f.write (inc8 v).2 = incFlags v.toInt (v + 1) f := by
  simp only [Flags.write, inc8, Option.getD_some, Option.getD_none, incFlags, msb_eq_neg, beq_eq_decide, eq_max_iff]

theorem write_dec8 (f : Flags) (v : Byte) : f.write (dec8 v).2 = decFlags v.toInt (v - 1) f := by
  simp only [Flags.write, dec8, Option.getD_some, Option.getD_none, decFlags, msb_eq_neg, beq_eq_decide, eq_min_iff]

theorem bool16_eq (a : Word) : (bool16 a).1 = if a = 0 then 0 else 1 := by
  by_cases h : a = 0 <;> simp [bool16, h]

theorem write_bool16 (f : Flags) (a : Word) :
    f.write (bool16 a).2 = { s := false, z := decide (a = 0), lv := false, c := false, other := f.other } := by
  by_cases h : a = 0
  · subst h
    rfl
  · rw [Flags.write, bool16, bne_iff_ne.mpr h, beq_eq_decide, decide_eq_false h]
    rfl

theorem bitIndex_eq (b : BitNo) : bitIndex b = bitNumber b := by cases b <;> rfl

theorem write_bittest (f : Flags) (v : Byte) (b : BitNo) :
    f.write (bittest v b) = { f with z := !v.getLsbD (bitNumber b) } := by
  simp [Flags.write, bittest, bitIndex_eq]

theorem write_loadFlags (f : Flags) (v : Byte) :
    f.write (loadFlags v) = { f with s := decide (128 ≤ v.toNat), z := decide (v = 0) } := by
  simp only [Flags.write, loadFlags, msb8, beq_eq_decide, Option.getD_some, Option.getD_none]

/-! ## An operand that was read -/

theorem onAt_of_reads {a : Addr} {v : Byte} {s t : State} (h : ReadsAs s.io a v s t) (k : Byte → State → State) :
    onAt a k s = .next (k v t) := (onAt_next_iff ..).mpr ⟨v, t, h, rfl⟩

theorem onAtIdx_of_reads {i : Index} {d v : Byte} {s t : State} (h : ReadsAs s.io (atIndex s i d) v s t)
    (k : Byte → State → State) : onAtIdx i d k s = .next (k v t) := onAt_of_reads (eaIdx_eq i d s ▸ h) k

theorem bugSpace_eq (s : State) : bugSpace s = bugSpaceOf s := by
  unfold bugSpace bugSpaceOf
  cases s.io <;> rfl

theorem not_bugRefused {s : State} (h : ¬ bugMeaningless s) : bugRefused s = false :=
  Bool.eq_false_iff.mpr fun hr => h ((bugRefused_iff s).mp hr)

/-- Outside the one case without a meaning, one of the twelve reads the space its own or the latch's I/O prefix names. -/
theorem onAtHLBug_of_reads {v : Byte} {s t : State} (hs : ¬ bugMeaningless s)
    (h : ReadsAs (bugSpaceOf s) (hl s.cpu.main) v s t) (k : Byte → State → State) : onAtHLBug k s = .next (k v t) :=
  (onAtHLBug_next_iff ..).mpr ⟨not_bugRefused hs, v, t, bugSpace_eq s ▸ h, rfl⟩

theorem bugWrite_of_meaning {s : State} (hs : ¬ bugMeaningless s) (a : Addr) (v : Byte) :
    bugWrite a v s = .next (stored (bugSpaceOf s) a v s) :=
  (bugWrite_next_iff ..).mpr ⟨not_bugRefused hs, bugSpace_eq s ▸ rfl⟩

theorem onAt16_of_reads {a : Addr} {w : Word} {s t : State} (h : ReadsWordAs s.io a w s t) (k : Word → State → State) :
    onAt16 a k s = .next (k w t) := (onAt16_next_iff ..).mpr ⟨w, t, h, rfl⟩

end Sys2Proof.Machine
end

section
/-! SUPPORT. ADC, ADD, AND, BIT, BOOL, CCF, CP, CPL (R150 to R207): each operation is the statements' result by exact
arithmetic, and each row applies its operation to the operand it names. -/

namespace Sys2Proof.Machine

open Expect

/-! ## The operations -/

theorem adcA_eq (v : Byte) (s : State) : adcA v s = addTo v s.cpu.main.f.c s := by
  simp only [adcA, dst8_setFlags_eq, add8_eq, write_add8, addTo, setReg]

theorem addA_eq (v : Byte) (s : State) : addA v s = addTo v false s := by
  simp only [addA, dst8_setFlags_eq, add8_eq, write_add8, addTo, setReg]

theorem andA_eq (v : Byte) (s : State) : andA v s = andTo v s := by
  simp only [andA, dst8_setFlags_eq, write_and8, andTo, setReg]
  rfl

theorem cpA_eq (v : Byte) (s : State) : cpA v s = compareTo v s := by
  simp only [cpA, State.setFlags_eq, write_sub8, compareTo]

theorem testBit_eq (b : BitNo) (v : Byte) (s : State) : testBit b v s = tested (bitNumber b) v s := by
  simp only [testBit, State.setFlags_eq, write_bittest, tested]

theorem adcHL_eq (v : Word) (s : State) : adcHL v s = s.onDest fun k =>
    { setPair k .hl (sum16 (hl s.cpu.main) v s.cpu.main.f.c) with
      f := sumFlags16 (hl s.cpu.main) v s.cpu.main.f.c k.f } := by
  simp only [adcHL, dst16_setFlags_eq, adc16_eq, write_adc16, State.pair_hl]

theorem addHL_eq (v : Word) (s : State) : addHL v s = s.onDest fun k =>
    { setPair k .hl (sum16 (hl s.cpu.main) v false) with
      f := { k.f with c := decide (65536 ≤ (hl s.cpu.main).toNat + v.toNat) } } := by
  simp only [addHL, dst16_setFlags_eq, add16c_eq, write_add16c, State.pair_hl]

theorem addIdx_eq (i : Index) (v : Word) (s : State) : addIdx i v s =
    (putIndex s i (sum16 (index s.cpu i) v false)).onDest fun k =>
      { k with f := { k.f with c := decide (65536 ≤ (index s.cpu i).toNat + v.toNat) } } := by
  simp only [addIdx, State.setFlags_eq, State.setIdx_eq, State.idx_eq, add16c_eq, write_add16c]

theorem addSp_eq (d : Byte) (s : State) : addSp d s =
    ({ s with cpu := { s.cpu with sp := BitVec.ofInt 16 (s.cpu.sp.toNat + d.toInt) } } : State).onDest fun k =>
      { k with f := { k.f with c := decide (65536 ≤ s.cpu.sp.toNat + (d.signExtend 16).toNat) } } := by
  simp only [addSp, State.setFlags_eq, add_sext16, addSpCarry_iff, Flags.write, Option.getD_some, Option.getD_none,
    State.setSp]

theorem andHL_eq (v : Word) (s : State) : andHL v s = s.onDest fun k =>
    { setPair k .hl (hl s.cpu.main &&& v) with f := andFlags16 (hl s.cpu.main &&& v) k.f } := by
  simp only [andHL, dst16_setFlags_eq, write_and16, State.pair_hl]
  rfl

theorem andIdx_eq (i : Index) (v : Word) (s : State) : andIdx i v s =
    (putIndex s i (index s.cpu i &&& v)).onDest fun k => { k with f := andFlags16 (index s.cpu i &&& v) k.f } := by
  simp only [andIdx, State.setFlags_eq, State.setIdx_eq, State.idx_eq, write_and16]
  rfl

theorem boolHL_eq (s : State) : boolHL s = s.onDest fun k =>
    { setPair k .hl (if hl s.cpu.main = 0 then 0 else 1) with
      f := { s := false, z := decide (hl s.cpu.main = 0), lv := false, c := false, other := k.f.other } } := by
  simp only [boolHL, dst16_setFlags_eq, bool16_eq, write_bool16, State.pair_hl]

theorem boolIdx_eq (i : Index) (s : State) : boolIdx i s =
    (putIndex s i (if index s.cpu i = 0 then 0 else 1)).onDest fun k =>
      { k with f := { s := false, z := decide (index s.cpu i = 0), lv := false, c := false, other := k.f.other } } := by
  simp only [boolIdx, State.setFlags_eq, State.setIdx_eq, State.idx_eq, bool16_eq, write_bool16]

/-! ## The rows by operand letter -/

theorem exec_adcAr (r : Reg8) (s : State) : exec (.adcAr r) s = onReg r adcA s := by cases r <;> rfl
theorem exec_addAr (r : Reg8) (s : State) : exec (.addAr r) s = onReg r addA s := by cases r <;> rfl
theorem exec_andr (r : Reg8) (s : State) : exec (.andr r) s = onReg r andA s := by cases r <;> rfl
theorem exec_cpr (r : Reg8) (s : State) : exec (.cpr r) s = onReg r cpA s := by cases r <;> rfl
theorem exec_bitbr (b : BitNo) (r : Reg8) (s : State) : exec (.bitbr b r) s = onReg r (testBit b) s := by
  cases b <;> cases r <;> rfl
theorem exec_bitbAtHL (b : BitNo) (s : State) : exec (.bitbAtHL b) s = onAt (eaHL s) (testBit b) s := by cases b <;> rfl
theorem exec_bitbAtIXd (b : BitNo) (d : Byte) (s : State) :
    exec (.bitbAtIXd b d) s = onAtIdx .ix d (testBit b) s := by cases b <;> rfl
theorem exec_bitbAtIYd (b : BitNo) (d : Byte) (s : State) :
    exec (.bitbAtIYd b d) s = onAtIdx .iy d (testBit b) s := by cases b <;> rfl
theorem exec_adcHLss (r : SS) (s : State) : exec (.adcHLss r) s = .next (adcHL (s.ss r) s) := by cases r <;> rfl
theorem exec_addHLss (r : SS) (s : State) : exec (.addHLss r) s = .next (addHL (s.ss r) s) := by cases r <;> rfl
theorem exec_addIXxx (r : XX) (s : State) : exec (.addIXxx r) s = .next (addIdx .ix (s.xx .ix r) s) := by
  cases r <;> rfl
theorem exec_addIYyy (r : XX) (s : State) : exec (.addIYyy r) s = .next (addIdx .iy (s.xx .iy r) s) := by
  cases r <;> rfl

/-- An operand form `m` that hands the value `v` and the state `t` to its operation, the registers as they were: the
four accumulator operations answer the statements' results. -/
theorem accumulator_of_operand {s t : State} {v : Byte} {m : (Byte → State → State) → Out} (hcpu : t.cpu = s.cpu)
    (hm : ∀ k, m k = .next (k v t)) :
    m adcA = .next (addTo v s.cpu.main.f.c t) ∧ m addA = .next (addTo v false t) ∧ m andA = .next (andTo v t) ∧
    m cpA = .next (compareTo v t) :=
  ⟨by rw [hm, adcA_eq, hcpu], by rw [hm, addA_eq], by rw [hm, andA_eq], by rw [hm, cpA_eq]⟩

theorem onReg_eq (r : Reg8) (k : Byte → State → State) (s : State) :
    onReg r k s = .next (k (reg s.cpu.main r) s) := by rw [onReg, State.reg8_eq]

/-- Settles O21. -/
theorem accumulatorWithRegistersAndConstants : Obligations.AccumulatorWithRegistersAndConstants := by
  intro s r n
  obtain ⟨hadc, hadd, hand, hcp⟩ := accumulator_of_operand rfl fun k => onReg_eq r k s
  obtain ⟨hadcn, haddn, handn, hcpn⟩ := accumulator_of_operand (m := fun k => onImm n k s) rfl fun _ => rfl
  exact ⟨(exec_adcAr r s).trans hadc, hadcn, (exec_addAr r s).trans hadd, haddn, (exec_andr r s).trans hand, handn,
    (exec_cpr r s).trans hcp, hcpn⟩

/-- Settles O22. -/
theorem accumulatorWithMemory : Obligations.AccumulatorWithMemory := by
  intro s t v d
  refine ⟨fun h => ?ix, fun h => ?iy, fun hs h => ?hl⟩
  case ix => exact accumulator_of_operand h.keeps.1 (onAtIdx_of_reads h)
  case iy => exact accumulator_of_operand h.keeps.1 (onAtIdx_of_reads h)
  case hl => exact accumulator_of_operand h.keeps.1 (onAtHLBug_of_reads hs h)

/-- Settles O23. -/
theorem addWords : Obligations.AddWords := by
  intro s r
  exact ⟨by rw [exec_adcHLss, adcHL_eq, State.ss_eq], by rw [exec_addHLss, addHL_eq, State.ss_eq]⟩

/-- Settles O24. -/
theorem addIndexRegistersAndSp : Obligations.AddIndexRegistersAndSp := by
  intro s r d
  refine ⟨?ix, ?iy, ?sp⟩
  case ix => rw [exec_addIXxx, addIdx_eq, State.xx_eq]; rfl
  case iy => rw [exec_addIYyy, addIdx_eq, State.xx_eq]; rfl
  case sp => exact congrArg Host.Outcome.next (addSp_eq d s)

/-- Settles O25. -/
theorem andWords : Obligations.AndWords := fun s =>
  ⟨congrArg Host.Outcome.next (andHL_eq _ s), congrArg Host.Outcome.next (andIdx_eq .ix _ s),
    congrArg Host.Outcome.next (andIdx_eq .iy _ s)⟩

/-- Settles O26. -/
theorem bitTestsOfRegisters : Obligations.BitTestsOfRegisters := by
  intro s b r
  rw [exec_bitbr, onReg_eq, testBit_eq]

/-- Settles O27: these rows read through `SrcRead`, which the latch does not redirect. -/
theorem bitTestsOfMemory : Obligations.BitTestsOfMemory := by
  intro s t b v d
  refine ⟨fun h => ?hl, fun h => ?ix, fun h => ?iy⟩
  case hl => rw [exec_bitbAtHL, eaHL_eq, onAt_of_reads h, testBit_eq]
  case ix => rw [exec_bitbAtIXd, onAtIdx_of_reads h, testBit_eq]
  case iy => rw [exec_bitbAtIYd, onAtIdx_of_reads h, testBit_eq]

/-- Settles O28. -/
theorem boolOfWords : Obligations.BoolOfWords := fun s =>
  ⟨congrArg Host.Outcome.next (boolHL_eq s), congrArg Host.Outcome.next (boolIdx_eq .ix s),
    congrArg Host.Outcome.next (boolIdx_eq .iy s)⟩

/-- Settles O29: the main carry is read, whichever bank is written. -/
theorem ccfInvertsTheCarry : Obligations.CcfInvertsTheCarry := fun s =>
  congrArg Host.Outcome.next (State.setFlags_eq s { c := some (!s.cpu.main.f.c) })

/-- A complement is the distance to 255. -/
theorem complement_eq_sub (a : Byte) : ~~~a = 255 - a := by
  apply BitVec.eq_of_toNat_eq
  rw [BitVec.toNat_not, BitVec.toNat_sub]
  have := a.isLt
  simp
  omega

/-- Settles O30. -/
theorem cplComplementsTheAccumulator : Obligations.CplComplementsTheAccumulator := by
  refine ⟨rfl, rfl, rfl, fun s => ?_⟩
  rw [← complement_eq_sub]
  exact congrArg Host.Outcome.next (State.dst8_eq s .a _)

end Sys2Proof.Machine
end

section
/-! SUPPORT. INC and DEC, jumps and calls, exchanges (R200, R220 to R235, R250 to R256, R284 to R292). -/

namespace Sys2Proof.Machine

open Expect

/-! ## INC and DEC -/

theorem exec_incr (r : Reg8) (s : State) : exec (.incr r) s = .next (stepReg r inc8 s) := by cases r <;> rfl
theorem exec_decr (r : Reg8) (s : State) : exec (.decr r) s = .next (stepReg r dec8 s) := by cases r <;> rfl
theorem exec_incss (r : SS) (s : State) : exec (.incss r) s = .next (s.setSS r (s.ss r + 1)) := by cases r <;> rfl
theorem exec_decss (r : SS) (s : State) : exec (.decss r) s = .next (s.setSS r (s.ss r - 1)) := by cases r <;> rfl

theorem stepReg_eq (r : Reg8) (f : Byte → Byte × FlagWrite) (s : State) :
    stepReg r f s = s.onDest fun k =>
      { setReg k r (f (reg s.cpu.main r)).1 with f := k.f.write (f (reg s.cpu.main r)).2 } := by
  simp only [stepReg, dst8_setFlags_eq, State.reg8_eq]

/-- Settles O31. -/
theorem stepRegisters : Obligations.StepRegisters := by
  intro s r
  refine ⟨?inc, ?dec⟩
  case inc => simp only [exec_incr, stepReg_eq, write_inc8]; rfl
  case dec => simp only [exec_decr, stepReg_eq, write_dec8]; rfl

/-- The byte is stored where it was read, and then the flags are written. -/
theorem stepAtIdx_of_reads {i : Index} {d v : Byte} {s t : State} (h : ReadsAs s.io (atIndex s i d) v s t)
    (f : Byte → Byte × FlagWrite) :
    stepAtIdx i d f s =
      .next ((stored s.io (atIndex s i d) (f v).1 t).onDest fun k => { k with f := k.f.write (f v).2 }) := by
  rw [← eaIdx_eq] at h ⊢
  rw [← State.setFlags_eq]
  exact (stepAtIdx_next_iff ..).mpr ⟨v, t, h, rfl⟩

theorem stepAtHL_of_reads {v : Byte} {s t : State} (hs : ¬ bugMeaningless s)
    (h : ReadsAs (bugSpaceOf s) (hl s.cpu.main) v s t) (f : Byte → Byte × FlagWrite) :
    stepAtHL f s =
      .next ((stored (bugSpaceOf s) (hl s.cpu.main) (f v).1 t).onDest fun k => { k with f := k.f.write (f v).2 }) := by
  rw [← bugSpace_eq] at h ⊢
  rw [← State.setFlags_eq]
  exact (stepAtHL_next_iff ..).mpr ⟨not_bugRefused hs, v, t, h, rfl⟩

/-- A form `m` that stores at `a` of the space `sp` what it read, by the two operations of INC and DEC. -/
theorem inc_dec_of_modify {m : (Byte → Byte × FlagWrite) → Out} {sp : Option IoSpace} {a : Addr} {v : Byte} {t : State}
    (hm : ∀ f, m f = .next ((stored sp a (f v).1 t).onDest fun k => { k with f := k.f.write (f v).2 })) :
    m inc8 = .next ((stored sp a (v + 1) t).onDest fun k => { k with f := incFlags v.toInt (v + 1) k.f }) ∧
    m dec8 = .next ((stored sp a (v - 1) t).onDest fun k => { k with f := decFlags v.toInt (v - 1) k.f }) := by
  simp only [hm, write_inc8, write_dec8]
  exact ⟨rfl, rfl⟩

/-- Settles O32. -/
theorem stepMemory : Obligations.StepMemory := by
  intro s t v d
  refine ⟨fun h => ?ix, fun h => ?iy, fun hs h => ?hl⟩
  case ix => exact inc_dec_of_modify (stepAtIdx_of_reads h)
  case iy => exact inc_dec_of_modify (stepAtIdx_of_reads h)
  case hl => exact inc_dec_of_modify (stepAtHL_of_reads hs h)

/-- Settles O33. -/
theorem stepWords : Obligations.StepWords := by
  intro s r
  exact ⟨by rw [exec_incss, State.setSS_eq, State.ss_eq], by rw [exec_decss, State.setSS_eq, State.ss_eq]⟩

/-! ## Relative and conditional jumps -/

theorem exec_jpfmn (f : Cond) (mn : Addr) (s : State) :
    exec (.jpfmn f mn) s = .next (jumpIf (s.cpu.main.f.cond f) mn s) := by cases f <;> rfl
theorem exec_jrcce (cc : CondJr) (k : Byte) (s : State) :
    exec (.jrcce cc k) s = .next (jumpIf (s.cpu.main.f.condJr cc) (relTarget k s) s) := by cases cc <;> rfl

theorem relTarget_eq (k : Byte) (s : State) : relTarget k s = BitVec.ofInt 16 (s.cpu.pc.toNat + k.toInt) :=
  add_sext16 _ _

theorem cond_eq (f : Flags) (q : Cond) : f.cond q = condHolds f q := by cases q <;> simp [Flags.cond, condHolds]
theorem condJr_eq (f : Flags) (q : CondJr) : f.condJr q = condHolds f (ofJr q) := by
  have hofJr : f.condJr q = f.cond (ofJr q) := by cases q <;> rfl
  rw [hofJr, cond_eq]

theorem jumpIf_true (a : Addr) (s : State) : jumpIf true a s = atPc s a := rfl
theorem jumpIf_false (a : Addr) (s : State) : jumpIf false a s = s := rfl

theorem load8_eq (r : Reg8) (v : Byte) (s : State) : load8 r v s = loaded r v s := State.dst8_eq s r v

/-- The test is on the computed `B - 1`, and the jump does not see which bank received it (D21). -/
theorem decJump_eq (k : Byte) (s : State) :
    decJump k s = jumpIf (s.cpu.main.b - 1 != 0) (relTarget k s) (loaded .b (s.cpu.main.b - 1) s) :=
  congrArg (jumpIf _ _) (State.dst8_eq s .b _)

/-- Settles O35. -/
theorem relativeJumps : Obligations.RelativeJumps := by
  intro s k
  have hdjnz : exec (.djnze k) s = .next (decJump k s) := rfl
  refine ⟨congrArg (fun a => Host.Outcome.next (atPc s a)) (relTarget_eq k s), fun hone => ?done, fun hmore => ?again⟩
  case done =>
    rw [hdjnz, decJump_eq, hone]
    rfl
  case again =>
    have htest : (s.cpu.main.b - 1 != 0) = true := bne_iff_ne.mpr fun h => hmore (sub_eq_zero.mp h)
    rw [hdjnz, decJump_eq, htest, jumpIf_true, relTarget_eq]

/-- Settles O36. -/
theorem conditionalJumps : Obligations.ConditionalJumps := by
  intro s f cc mn k
  rw [exec_jpfmn, exec_jrcce, cond_eq, condJr_eq, relTarget_eq]
  exact ⟨fun h => by rw [h, jumpIf_true], fun h => by rw [h, jumpIf_false], fun h => by rw [h, jumpIf_true],
    fun h => by rw [h, jumpIf_false]⟩

/-! ## Calls -/

/-- Settles O38. -/
theorem callPushesTheReturnAddress : Obligations.CallPushesTheReturnAddress := fun _ _ => rfl

/-- A store in memory reaches the cell of its address alone. -/
theorem stored_none_read_other (a : Addr) (v : Byte) (s : State) {c : Nat} (h : c ≠ s.cell a) :
    (stored none a v s).mem.read c = s.mem.read c := by
  show Memory.read (if s.writable a then s.mem.write (s.cell a) v else s.mem) c = s.mem.read c
  split
  · exact Memory.read_write_other _ _ _ _ h
  · rfl

theorem stored_none_peek_same {a b : Addr} {v : Byte} {s : State} (hw : s.writable a = true) (h : s.cell b = s.cell a) :
    (stored none a v s).peek b = some v := memWrite_peek_same a b v s hw h

theorem stored_none_peek_other {a b : Addr} {v : Byte} {s : State} (h : s.cell b ≠ s.cell a) :
    (stored none a v s).peek b = s.peek b := memWrite_peek_other a b v s h

/-- Which cell an address names, and whether it takes a write, no store changes. -/
theorem stored_cell (sp : Option IoSpace) (a b : Addr) (v : Byte) (s : State) : (stored sp a v s).cell b = s.cell b := by
  cases sp <;> rfl
theorem stored_writable (sp : Option IoSpace) (a b : Addr) (v : Byte) (s : State) :
    (stored sp a v s).writable b = s.writable b := by cases sp <;> rfl

/-- Settles O39. -/
theorem callLeavesTheReturnAddressOnTheStack : Obligations.CallLeavesTheReturnAddressOnTheStack := by
  intro s t mn h
  obtain rfl := Host.Outcome.next.inj ((callPushesTheReturnAddress s mn).symm.trans h)
  refine ⟨fun hcells hhigh hlow => ⟨?low, ?high⟩, fun c hchigh hclow => ?frame⟩
  case low =>
    exact stored_none_peek_same ((stored_writable ..).trans hlow) rfl
  case high =>
    have hnext : s.cpu.sp - 2 + 1 = s.cpu.sp - 1 := by bv_omega
    show State.peek _ (s.cpu.sp - 2 + 1) = _
    rw [hnext]
    exact (stored_none_peek_other (by rw [stored_cell, stored_cell]; exact hcells)).trans (stored_none_peek_same hhigh rfl)
  case frame =>
    exact (stored_none_read_other _ _ _ (by rw [stored_cell]; exact hclow)).trans (stored_none_read_other _ _ _ hchigh)

/-- Settles O40. -/
theorem longCallPushesXpcAndReturnAddress : Obligations.LongCallPushesXpcAndReturnAddress := by
  intro s x mn
  refine ⟨fun hge => ?pushed, fun hlt => ?refused⟩
  case pushed => exact if_neg (Nat.not_lt.mpr hge)
  case refused => exact if_pos hlt

/-! ## Exchanges -/

theorem exAtSP_of_reads {s : State} {w : Word} (h : ReadsWordAs none s.cpu.sp w s s) (v : Word)
    (k : Word → State → State) : exAtSP v k s = .next (k w (storedWord none s.cpu.sp v s)) :=
  (exAtSP_next_iff ..).mpr ⟨w, s, h, rfl⟩

theorem exec_exAtSPHL (s : State) : exec .exAtSPHL s = exAtSP (hl s.cpu.main) (fun w t => t.dst16 .hl w) s := rfl
theorem exec_exAtSPIX (s : State) : exec .exAtSPIX s = exAtSP s.cpu.ix (fun w t => t.setIdx .ix w) s := rfl
theorem exec_exAtSPIY (s : State) : exec .exAtSPIY s = exAtSP s.cpu.iy (fun w t => t.setIdx .iy w) s := rfl

/-- Settles O41. -/
theorem exchangeWithTheStack : Obligations.ExchangeWithTheStack := by
  intro s w h
  refine ⟨?hl, ?ix, ?iy⟩
  case hl => rw [exec_exAtSPHL, exAtSP_of_reads h, State.dst16_eq]
  case ix => rw [exec_exAtSPIX, exAtSP_of_reads h, State.setIdx_eq]
  case iy => rw [exec_exAtSPIY, exAtSP_of_reads h, State.setIdx_eq]

theorem Bank.get16_hl_halves (k : Bank) : hi (k.get16 .hl) = k.h ∧ lo (k.get16 .hl) = k.l := ⟨hi_word .., lo_word ..⟩
theorem Bank.get16_de_halves (k : Bank) : hi (k.get16 .de) = k.d ∧ lo (k.get16 .de) = k.e := ⟨hi_word .., lo_word ..⟩

/-- Settles O43: the halves of each pair go to the halves of the other. -/
theorem exchangeDeAndHl : Obligations.ExchangeDeAndHl := by
  intro s
  have hDEHL : exec .exDEHL s = .next (exchangeHL false s) := rfl
  have hDEaltHL : exec .exDEaltHL s = .next (exchangeHL true s) := rfl
  rw [hDEHL, hDEaltHL]
  refine ⟨fun haltd => ⟨?_, ?_⟩, fun haltd => ⟨?_, ?_⟩⟩
  all_goals
    simp only [exchangeHL, haltd, State.onMain, State.onAlt, Cpu.onBank, Bank.set16, Bank.get16_hl_halves,
      Bank.get16_de_halves]

end Sys2Proof.Machine
end

section
/-! SUPPORT. Stores and loads (R300 to R379), and memory through the mapping (R82, R83, R90). -/

namespace Sys2Proof.Machine

open Expect

/-! ## Stores -/

/-- A store through `DstWrite` at an indexed address. -/
theorem dstWrite_idx (i : Index) (d v : Byte) (s : State) :
    dstWrite (eaIdx i d s) v s = stored s.io (atIndex s i d) v s := by rw [dstWrite_eq_stored, eaIdx_eq]

theorem dstWrite16_idx (i : Index) (d : Byte) (v : Word) (s : State) :
    dstWrite16 (eaIdx i d s) v s = storedWord s.io (atIndex s i d) v s := by rw [dstWrite16_eq_storedWord, eaIdx_eq]

theorem exec_ldAtIXdr (r : Reg8) (d : Byte) (s : State) :
    exec (.ldAtIXdr r d) s = .next (dstWrite (eaIdx .ix d s) (s.reg8 r) s) := by cases r <;> rfl
theorem exec_ldAtIYdr (r : Reg8) (d : Byte) (s : State) :
    exec (.ldAtIYdr r d) s = .next (dstWrite (eaIdx .iy d s) (s.reg8 r) s) := by cases r <;> rfl
theorem exec_ldAtHLr (r : Reg8) (s : State) : exec (.ldAtHLr r) s = bugWrite (eaHL s) (s.reg8 r) s := by cases r <;> rfl
theorem exec_ldAtmnss (r : SS) (mn : Addr) (s : State) :
    exec (.ldAtmnss r mn) s = .next (dstWrite16 mn (s.ss r) s) := by cases r <;> rfl

/-- Settles O49. -/
theorem byteStores : Obligations.ByteStores := by
  intro s d n r mn
  refine ⟨?bc, ?de, ?hl, ?ix, ?ixr, ?iy, ?iyr, ?mn, fun hs => ?hlr⟩
  case bc => exact congrArg Host.Outcome.next (dstWrite_eq_stored ..)
  case de => exact congrArg Host.Outcome.next (dstWrite_eq_stored ..)
  case hl => exact congrArg Host.Outcome.next (dstWrite_eq_stored ..)
  case ix => exact congrArg Host.Outcome.next (dstWrite_idx ..)
  case ixr => rw [exec_ldAtIXdr, dstWrite_idx, State.reg8_eq]
  case iy => exact congrArg Host.Outcome.next (dstWrite_idx ..)
  case iyr => rw [exec_ldAtIYdr, dstWrite_idx, State.reg8_eq]
  case mn => exact congrArg Host.Outcome.next (dstWrite_eq_stored ..)
  case hlr => rw [exec_ldAtHLr, bugWrite_of_meaning hs, eaHL_eq, State.reg8_eq]

/-- Settles O50. -/
theorem wordStores : Obligations.WordStores := by
  intro s d r mn
  refine ⟨?hl, ?ix, ?iy, ?mnHL, ?mnIX, ?mnIY, ?mnss⟩
  case hl => exact congrArg Host.Outcome.next (dstWrite16_eq_storedWord ..)
  case ix => exact congrArg Host.Outcome.next (dstWrite16_idx ..)
  case iy => exact congrArg Host.Outcome.next (dstWrite16_idx ..)
  case mnHL => exact congrArg Host.Outcome.next (dstWrite16_eq_storedWord ..)
  case mnIX => exact congrArg Host.Outcome.next (dstWrite16_eq_storedWord ..)
  case mnIY => exact congrArg Host.Outcome.next (dstWrite16_eq_storedWord ..)
  case mnss => rw [exec_ldAtmnss, dstWrite16_eq_storedWord, State.ss_eq]

/-- The offset of a stack-relative operand is unsigned (D3). -/
theorem eaSP_eq (n : Byte) (s : State) : eaSP n s = BitVec.ofNat 16 (s.cpu.sp.toNat + n.toNat) := by
  apply BitVec.eq_of_toNat_eq
  simp [eaSP, zext16]

/-- A stack-relative store goes to memory, whatever the context. -/
theorem memWrite16_SP (n : Byte) (v : Word) (s : State) :
    memWrite16 (eaSP n s) v s = storedWord none (BitVec.ofNat 16 (s.cpu.sp.toNat + n.toNat)) v s := by
  rw [eaSP_eq]
  rfl

/-- Settles O51. -/
theorem stackRelativeStores : Obligations.StackRelativeStores := fun s n =>
  ⟨congrArg Host.Outcome.next (memWrite16_SP n _ s), congrArg Host.Outcome.next (memWrite16_SP n _ s),
    congrArg Host.Outcome.next (memWrite16_SP n _ s)⟩

/-! ## Byte loads -/

theorem exec_ldrg (r g : Reg8) (s : State) : exec (.ldrg r g) s = onReg g (load8 r) s := by
  cases r <;> cases g <;> rfl
theorem exec_ldrn (r : Reg8) (n : Byte) (s : State) : exec (.ldrn r n) s = .next (load8 r n s) := by cases r <;> rfl
theorem exec_ldrAtHL (r : Reg8) (s : State) : exec (.ldrAtHL r) s = onAtHLBug (load8 r) s := by cases r <;> rfl
theorem exec_ldrAtIXd (r : Reg8) (d : Byte) (s : State) : exec (.ldrAtIXd r d) s = onAtIdx .ix d (load8 r) s := by
  cases r <;> rfl
theorem exec_ldrAtIYd (r : Reg8) (d : Byte) (s : State) : exec (.ldrAtIYd r d) s = onAtIdx .iy d (load8 r) s := by
  cases r <;> rfl
theorem exec_ldAAtBC (s : State) : exec .ldAAtBC s = onAt (bc s.cpu.main) (load8 .a) s := rfl
theorem exec_ldAAtDE (s : State) : exec .ldAAtDE s = onAt (de s.cpu.main) (load8 .a) s := rfl
theorem exec_ldAAtmn (mn : Addr) (s : State) : exec (.ldAAtmn mn) s = onAt mn (load8 .a) s := rfl

/-- Settles O52. -/
theorem byteLoadsFromRegistersAndConstants : Obligations.ByteLoadsFromRegistersAndConstants := by
  intro s r g n
  exact ⟨by rw [exec_ldrg, onReg_eq, load8_eq], by rw [exec_ldrn, load8_eq]⟩

/-- Settles O53. -/
theorem byteLoadsFromMemory : Obligations.ByteLoadsFromMemory := by
  intro s t r v d mn
  refine ⟨fun h => ?bc, fun h => ?de, fun h => ?mn, fun h => ?ix, fun h => ?iy, fun hs h => ?hl⟩
  case bc => rw [exec_ldAAtBC, onAt_of_reads h, load8_eq]
  case de => rw [exec_ldAAtDE, onAt_of_reads h, load8_eq]
  case mn => rw [exec_ldAAtmn, onAt_of_reads h, load8_eq]
  case ix => rw [exec_ldrAtIXd, onAtIdx_of_reads h, load8_eq]
  case iy => rw [exec_ldrAtIYd, onAtIdx_of_reads h, load8_eq]
  case hl => rw [exec_ldrAtHL, onAtHLBug_of_reads hs h, load8_eq]

theorem loadIntReg_eq (v : Byte) (s : State) : loadIntReg v s = s.onDest fun k =>
    { k with a := v, f := { k.f with s := decide (128 ≤ v.toNat), z := decide (v = 0) } } := by
  simp only [loadIntReg, dst8_setFlags_eq, write_loadFlags, setReg]

/-- Settles O54. -/
theorem movesOfSpecialRegisters : Obligations.MovesOfSpecialRegisters := fun s =>
  ⟨congrArg Host.Outcome.next (loadIntReg_eq _ s), congrArg Host.Outcome.next (loadIntReg_eq _ s),
    congrArg Host.Outcome.next (load8_eq .a _ s), rfl⟩

/-- Settles O55. -/
theorem loadsOfInterruptRegisters : Obligations.LoadsOfInterruptRegisters :=
  ⟨⟨rfl, rfl⟩, by decide, fun _ => ⟨rfl, rfl⟩⟩

/-! ## Word loads and moves -/

theorem load16_eq (r : SS) (v : Word) (s : State) : load16 r v s = putSS s r v := State.setSS_eq s r v
theorem loadIdx_eq (i : Index) (v : Word) (s : State) : loadIdx i v s = putIndex s i v := State.setIdx_eq s i v
theorem putSS_hl (s : State) (v : Word) : putSS s .hl v = s.onDest fun k => setPair k .hl v := rfl

theorem onAtIdx16_of_reads {i : Index} {d : Byte} {w : Word} {s t : State} (h : ReadsWordAs s.io (atIndex s i d) w s t)
    (k : Word → State → State) : onAt16 (eaIdx i d s) k s = .next (k w t) := onAt16_of_reads (eaIdx_eq i d s ▸ h) k

theorem onAtSP16_of_reads {n : Byte} {w : Word} {s : State}
    (h : ReadsWordAs none (BitVec.ofNat 16 (s.cpu.sp.toNat + n.toNat)) w s s) (k : Word → State → State) :
    onAtSP16 n k s = .next (k w s) := (onAtSP16_next_iff ..).mpr ⟨w, s, (eaSP_eq n s).symm ▸ h, rfl⟩

theorem exec_ldddAtmn (r : SS) (mn : Addr) (s : State) : exec (.ldddAtmn r mn) s = onAt16 mn (load16 r) s := by
  cases r <;> rfl
theorem exec_ldIXAtmn (mn : Addr) (s : State) : exec (.ldIXAtmn mn) s = onAt16 mn (loadIdx .ix) s := rfl
theorem exec_ldIYAtmn (mn : Addr) (s : State) : exec (.ldIYAtmn mn) s = onAt16 mn (loadIdx .iy) s := rfl
theorem exec_ldHLAtHLd (d : Byte) (s : State) :
    exec (.ldHLAtHLd d) s = onAt16 (hl s.cpu.main + d.signExtend 16) (load16 .hl) s := rfl
theorem exec_ldHLAtIXd (d : Byte) (s : State) : exec (.ldHLAtIXd d) s = onAt16 (eaIdx .ix d s) (load16 .hl) s := rfl
theorem exec_ldHLAtIYd (d : Byte) (s : State) : exec (.ldHLAtIYd d) s = onAt16 (eaIdx .iy d s) (load16 .hl) s := rfl
theorem exec_ldHLAtSPn (n : Byte) (s : State) : exec (.ldHLAtSPn n) s = onAtSP16 n (load16 .hl) s := rfl
theorem exec_ldIXAtSPn (n : Byte) (s : State) : exec (.ldIXAtSPn n) s = onAtSP16 n (loadIdx .ix) s := rfl
theorem exec_ldIYAtSPn (n : Byte) (s : State) : exec (.ldIYAtSPn n) s = onAtSP16 n (loadIdx .iy) s := rfl
theorem exec_ldddmn (r : SS) (mn : Word) (s : State) : exec (.ldddmn r mn) s = .next (load16 r mn s) := by
  cases r <;> rfl

/-- Settles O56. -/
theorem wordLoadsFromMemory : Obligations.WordLoadsFromMemory := by
  intro s t r w d mn
  refine ⟨fun h => ⟨?dd, ?ix, ?iy⟩, fun h => ?atHL, fun h => ?atIX, fun h => ?atIY⟩
  case dd => rw [exec_ldddAtmn, onAt16_of_reads h, load16_eq]
  case ix => rw [exec_ldIXAtmn, onAt16_of_reads h, loadIdx_eq]
  case iy => rw [exec_ldIYAtmn, onAt16_of_reads h, loadIdx_eq]
  case atHL => rw [exec_ldHLAtHLd, onAt16_of_reads h, load16_eq, putSS_hl]
  case atIX => rw [exec_ldHLAtIXd, onAtIdx16_of_reads h, load16_eq, putSS_hl]
  case atIY => rw [exec_ldHLAtIYd, onAtIdx16_of_reads h, load16_eq, putSS_hl]

/-- Settles O57. -/
theorem wordLoadsFromTheStack : Obligations.WordLoadsFromTheStack := by
  intro s w n h
  refine ⟨?hl, ?ix, ?iy⟩
  case hl => rw [exec_ldHLAtSPn, onAtSP16_of_reads h, load16_eq, putSS_hl]
  case ix => rw [exec_ldIXAtSPn, onAtSP16_of_reads h, loadIdx_eq]
  case iy => rw [exec_ldIYAtSPn, onAtSP16_of_reads h, loadIdx_eq]

/-- The loads of an alternate pair write the alternate bank whatever the context. -/
theorem exec_ldddaltBC (q : Pair) (s : State) :
    exec (.ldddaltBC q) s = .next (s.onAlt fun k => k.set16 q (bc s.cpu.main)) := by cases q <;> rfl
theorem exec_ldddaltDE (q : Pair) (s : State) :
    exec (.ldddaltDE q) s = .next (s.onAlt fun k => k.set16 q (de s.cpu.main)) := by cases q <;> rfl

theorem onAlt_set16_eq (q : Pair) (v : Word) (s : State) :
    s.onAlt (fun k => k.set16 q v) = { s with cpu := { s.cpu with alt := setPair s.cpu.alt q v } } := by
  rw [← Bank.set16_eq]
  rfl

/-- Settles O58. -/
theorem wordMoves : Obligations.WordMoves := by
  intro s r q mn
  refine ⟨?dd, ?hlix, ?hliy, ?bcAlt, ?deAlt, rfl, rfl, rfl, rfl, rfl, rfl, rfl⟩
  case dd => rw [exec_ldddmn, load16_eq]
  case hlix => exact congrArg Host.Outcome.next (load16_eq .hl _ s)
  case hliy => exact congrArg Host.Outcome.next (load16_eq .hl _ s)
  case bcAlt => rw [exec_ldddaltBC, onAlt_set16_eq]
  case deAlt => rw [exec_ldddaltDE, onAlt_set16_eq]

/-! ## Memory through the mapping -/

theorem writable_eq_false_iff (s : State) (a : Addr) :
    s.writable a = false ↔ ∃ r ∈ s.readOnly, r.first ≤ s.cell a ∧ s.cell a ≤ r.last := by
  simp [State.writable, CellRange.holds]

theorem holds_iff (w : MapWindow) (xpc : Byte) (a : Addr) :
    w.holds xpc a = true ↔
      (w.xpc = none ∨ w.xpc = some xpc) ∧ w.first.toNat ≤ a.toNat ∧ a.toNat ≤ w.last.toNat := by
  simp [MapWindow.holds, BitVec.le_def, and_assoc]

/-- The first window decides where it holds the address. -/
theorem cell_of_holds {s : State} {w : MapWindow} {t : List MapWindow} {a : Addr} (hmap : s.mapping = w :: t)
    (h : w.holds s.cpu.xpc a = true) : s.cell a = w.base + (a.toNat - w.first.toNat) := by
  rw [State.cell, hmap, translate, if_pos h]

theorem cell_of_not_holds {s : State} {w : MapWindow} {t : List MapWindow} {a : Addr} (hmap : s.mapping = w :: t)
    (h : ¬ w.holds s.cpu.xpc a = true) : s.cell a = ({ s with mapping := t } : State).cell a := by
  rw [State.cell, hmap, translate, if_neg h]
  rfl

/-- Settles O14. -/
theorem memoryReadAfterWrite : Obligations.MemoryReadAfterWrite := by
  intro s a b v w t
  refine ⟨stored_none_peek_same, stored_none_peek_other, memWrite_not_admitted a v s, writable_eq_false_iff s a,
    fun hmap => ?flat, fun hmap hxpc hfirst hlast => ?inside, fun hmap hout => ?outside⟩
  case flat => rw [State.cell, hmap, translate]
  case inside => exact cell_of_holds hmap ((holds_iff ..).mpr ⟨hxpc, hfirst, hlast⟩)
  case outside =>
    refine cell_of_not_holds hmap fun h => ?_
    obtain ⟨hxpc, hfirst, hlast⟩ := (holds_iff ..).mp h
    rcases hout with ⟨hnone, hsome⟩ | hbelow | habove
    · exact hxpc.elim hnone hsome
    · exact Nat.not_lt.mpr hfirst hbelow
    · exact Nat.not_lt.mpr hlast habove

/-- A word stored in two different cells that take writes is read back, low byte first. -/
theorem storedWord_reads {a : Addr} {w : Word} {s : State} (hcells : s.cell a ≠ s.cell (a + 1))
    (hlow : s.writable a = true) (hhigh : s.writable (a + 1) = true) :
    ReadsWordAs none a w (storedWord none a w s) (storedWord none a w s) := by
  refine ⟨lo w, hi w, _, ⟨?low, rfl⟩, ⟨?high, rfl⟩, (Laws.word_hi_lo w).symm⟩
  case low =>
    exact (stored_none_peek_other (by rw [stored_cell, stored_cell]; exact hcells)).trans (stored_none_peek_same hlow rfl)
  case high => exact stored_none_peek_same ((stored_writable ..).trans hhigh) rfl

/-- Settles O15. -/
theorem storedWordIsLoadedBack : Obligations.StoredWordIsLoadedBack := by
  intro s mn hio hcells hlow hhigh
  obtain ⟨t, ht⟩ : ∃ t, t = storedWord none mn (hl s.cpu.main) s := ⟨_, rfl⟩
  have htio : t.io = none := by rw [ht, storedWord_io, hio]
  have htcpu : t.cpu = s.cpu := by rw [ht, storedWord_cpu]
  have hread : ReadsWordAs t.io mn (hl s.cpu.main) t t := by
    rw [htio, ht]
    exact storedWord_reads hcells hlow hhigh
  refine ⟨t, ?store, ?ix, ?iy⟩
  case store => rw [ht, ← hio]; exact congrArg Host.Outcome.next (dstWrite16_eq_storedWord ..)
  case ix => rw [exec_ldIXAtmn, onAt16_of_reads hread, ← htcpu]; rfl
  case iy => rw [exec_ldIYAtmn, onAt16_of_reads hread, ← htcpu]; rfl

end Sys2Proof.Machine
end

section
/-! SUPPORT. Block moves (R390 to R394): one move, one iteration of a repeating one, and as many iterations as BC
counts. -/

namespace Sys2Proof.Machine

open Expect

/-! ## One iteration -/

/-- L/V says whether the new BC is not 0, that is whether the old one was not 1 (R53). -/
theorem write_blockFlags (f : Flags) (x : Word) : f.write (blockFlags (x - 1)) = { f with lv := decide (x ≠ 1) } := by
  have h : (x - 1 != 0) = decide (x ≠ 1) := by
    rw [bne, beq_eq_decide, ← decide_not]
    exact decide_eq_decide.mpr (not_congr sub_eq_zero)
  rw [Flags.write, blockFlags, h]
  rfl

/-- A move that completes read the byte at HL, and leaves `moved`. -/
theorem moveOne_eq_moved {dir : Word} {s t : State} (h : moveOne dir s = .next t) :
    ∃ v, s.peek (hl s.cpu.main) = some v ∧ t = moved dir v s := by
  obtain ⟨v, hv, rfl⟩ := moveOne_next h
  refine ⟨v, hv, ?_⟩
  simp only [State.pair_bc, write_blockFlags, State.onMain, moved, stored_cpu]
  rfl

/-- A move completes where the cell at HL holds a value. -/
theorem moveOne_of_peek (dir : Word) {v : Byte} {s : State} (h : s.peek (hl s.cpu.main) = some v) :
    moveOne dir s = .next (moved dir v s) := by
  have hread : memRead (s.pair .hl) s = .next (v, s) := (readFrom_next_iff none ..).mpr ⟨h, rfl⟩
  obtain ⟨t, ht⟩ : ∃ t, moveOne dir s = .next t := by
    rw [moveOne, hread]
    exact ⟨_, rfl⟩
  obtain ⟨u, hu, rfl⟩ := moveOne_eq_moved ht
  rw [ht, Option.some.inj (hu.symm.trans h)]

theorem moved_bc (dir : Word) (v : Byte) (s : State) : (moved dir v s).pair .bc = bc s.cpu.main - 1 :=
  Laws.word_hi_lo _

theorem moved_pc0 (dir : Word) (v : Byte) (s : State) : (moved dir v s).pc0 = s.pc0 := stored_pc0 ..

/-- One iteration of a repeating move goes back to `pc0` unless BC was 1. -/
theorem moved_goBack_eq (dir : Word) (v : Byte) (s : State) :
    (if (moved dir v s).pair .bc != 0 then (moved dir v s).setPc (moved dir v s).pc0 else moved dir v s) =
      if bc s.cpu.main ≠ 1 then atPc (moved dir v s) s.pc0 else moved dir v s := by
  simp only [moved_bc, moved_pc0, bne_iff_ne, ne_eq, sub_eq_zero, State.setPc_eq_atPc]

theorem blockRepeat_of_peek (dir : Word) {v : Byte} {s : State} (h : s.peek (hl s.cpu.main) = some v) :
    blockRepeat dir s = .next (if bc s.cpu.main ≠ 1 then atPc (moved dir v s) s.pc0 else moved dir v s) := by
  rw [blockRepeat, moveOne_of_peek dir h, ← moved_goBack_eq]
  rfl

/-- Settles O59. -/
theorem blockMoves : Obligations.BlockMoves := by
  intro s v hv
  refine ⟨moveOne_of_peek 1 hv, moveOne_of_peek (-1) hv, fun hbc => ?again, fun hbc => ?last⟩
  case again =>
    exact ⟨(blockRepeat_of_peek 1 hv).trans (by rw [if_pos hbc]), (blockRepeat_of_peek (-1) hv).trans (by rw [if_pos hbc])⟩
  case last =>
    have hbc' : ¬ bc s.cpu.main ≠ 1 := not_not.mpr hbc
    exact ⟨(blockRepeat_of_peek 1 hv).trans (by rw [if_neg hbc']),
      (blockRepeat_of_peek (-1) hv).trans (by rw [if_neg hbc'])⟩

/-! ## Many iterations -/

/-- The main bank after `n` moves, at least one: BC counted down, HL and DE moved, L/V says whether BC is not 0. -/
def sweptBank (dir : Word) (n : Nat) (k : Bank) : Bank :=
  setPair (setPair (setPair { k with f := { k.f with lv := decide (bc k ≠ BitVec.ofNat 16 n) } }
    .bc (bc k - BitVec.ofNat 16 n)) .hl (hl k + BitVec.ofNat 16 n * dir)) .de (de k + BitVec.ofNat 16 n * dir)

/-- `t` is what `n` moves from `s` on may leave: the main bank is the swept one, and beyond it they change PC and, by
their I/O prefix, either memory or the I/O history. -/
structure Swept (dir : Word) (n : Nat) (s t : State) : Prop where
  state : t = { s with
    cpu := { s.cpu with main := sweptBank dir n s.cpu.main, pc := t.cpu.pc }
    mem := t.mem
    ioTrace := t.ioTrace }
  trace : s.io = none → t.ioTrace = s.ioTrace
  mem : s.io ≠ none → t.mem = s.mem

theorem sweptBank_bc (dir : Word) (n : Nat) (k : Bank) : bc (sweptBank dir n k) = bc k - BitVec.ofNat 16 n :=
  Laws.word_hi_lo _
theorem sweptBank_hl (dir : Word) (n : Nat) (k : Bank) : hl (sweptBank dir n k) = hl k + BitVec.ofNat 16 n * dir :=
  Laws.word_hi_lo _
theorem sweptBank_de (dir : Word) (n : Nat) (k : Bank) : de (sweptBank dir n k) = de k + BitVec.ofNat 16 n * dir :=
  Laws.word_hi_lo _

/-- Moves after moves sweep as all of them together. -/
theorem sweptBank_sweptBank (dir : Word) (m n : Nat) (k : Bank) :
    sweptBank dir n (sweptBank dir m k) = sweptBank dir (m + n) k := by
  have hlv : decide (bc k - BitVec.ofNat 16 m ≠ BitVec.ofNat 16 n) = decide (bc k ≠ BitVec.ofNat 16 (m + n)) :=
    decide_eq_decide.mpr (not_congr (by rw [sub_eq_iff_eq_add', BitVec.ofNat_add]))
  have hbc : bc k - BitVec.ofNat 16 m - BitVec.ofNat 16 n = bc k - BitVec.ofNat 16 (m + n) := by
    rw [BitVec.ofNat_add, sub_sub]
  have hmove (x : Word) : x + BitVec.ofNat 16 m * dir + BitVec.ofNat 16 n * dir = x + BitVec.ofNat 16 (m + n) * dir := by
    rw [BitVec.ofNat_add, add_mul, add_assoc]
  rw [sweptBank, sweptBank_bc, sweptBank_hl, sweptBank_de, hlv, hbc, hmove, hmove]
  rfl

theorem Swept.trans {dir : Word} {m n : Nat} {s t u : State} (h : Swept dir m s t) (h' : Swept dir n t u) :
    Swept dir (m + n) s u := by
  have hio : t.io = s.io := by rw [h.state]
  refine ⟨?state, fun hs => (h'.trace (hio.trans hs)).trans (h.trace hs),
    fun hs => (h'.mem (hio.symm ▸ hs)).trans (h.mem hs)⟩
  case state =>
    rw [h'.state, h.state, sweptBank_sweptBank]

theorem moved_main (dir : Word) (v : Byte) (s : State) : (moved dir v s).cpu.main = sweptBank dir 1 s.cpu.main := by
  have h : BitVec.ofNat 16 1 * dir = dir := one_mul dir
  rw [sweptBank, h]
  rfl

/-- One move stores once, to memory or to the I/O space of the prefix. -/
theorem swept_moved (dir : Word) (v : Byte) (s : State) : Swept dir 1 s (moved dir v s) := by
  refine ⟨?state, fun hs => ?trace, fun hs => ?mem⟩
  case state =>
    rw [← moved_main dir v s]
    cases hs : s.io <;> simp only [moved, hs, stored]
  case trace => simp only [moved, hs, stored]
  case mem =>
    obtain ⟨p, hp⟩ := Option.ne_none_iff_exists'.mp hs
    simp only [moved, hp, stored]

theorem swept_atPc {dir : Word} {n : Nat} {s t : State} (a : Addr) (h : Swept dir n s t) : Swept dir n s (atPc t a) :=
  ⟨by rw [atPc, h.state], h.trace, h.mem⟩

theorem blockRepeat_swept {dir : Word} {s t : State} (h : blockRepeat dir s = .next t) : Swept dir 1 s t := by
  obtain ⟨u, hu, rfl⟩ := blockRepeat_next h
  obtain ⟨v, -, rfl⟩ := moveOne_eq_moved hu
  rw [moved_goBack_eq]
  split
  · exact swept_atPc _ (swept_moved ..)
  · exact swept_moved ..

/-- The iterations of a repeating move, by induction on how many follow the first. -/
theorem repeated_swept {i : Instr} {dir : Word} (hi : ∀ s, exec i s = blockRepeat dir s) (n : Nat) {s t : State}
    (h : repeated i (n + 1) s = .next t) : Swept dir (n + 1) s t := by
  induction n generalizing s with
  | zero =>
    rw [repeated, hi] at h
    split at h
    next u hu =>
      obtain rfl := Host.Outcome.next.inj h
      exact blockRepeat_swept hu
    all_goals cases h
  | succ n ih =>
    rw [repeated, hi] at h
    split at h
    next u hu =>
      rw [Nat.add_comm]
      exact (blockRepeat_swept hu).trans (ih h)
    all_goals cases h

/-- As many iterations as BC counts: a positive number, and BC modulo 2^16. -/
theorem iterations_eq {x : Word} {n : Nat} (h : n = if x = 0 then 65536 else x.toNat) :
    ∃ m, n = m + 1 ∧ BitVec.ofNat 16 n = x := by
  split at h
  next hx => exact ⟨65535, h, by rw [h, hx]; rfl⟩
  next hx =>
    have hpos : x.toNat ≠ 0 := fun h0 => hx (BitVec.eq_of_toNat_eq h0)
    exact ⟨n - 1, by omega, by rw [h, BitVec.ofNat_toNat, BitVec.setWidth_eq]⟩

/-- Once the count is the one in BC, BC is 0 and L/V clear. -/
theorem sweptBank_of_count {dir : Word} {n : Nat} {k : Bank} (h : BitVec.ofNat 16 n = bc k) :
    sweptBank dir n k =
      setPair (setPair (setPair { k with f := { k.f with lv := false } } .bc 0) .hl (hl k + BitVec.ofNat 16 n * dir))
        .de (de k + BitVec.ofNat 16 n * dir) := by
  rw [sweptBank, decide_eq_false (not_not.mpr h.symm), sub_eq_zero.mpr h.symm]

/-- Settles O60, from what the iterations leave for every count. -/
theorem repeatedMoveEndsWithBcZero : Obligations.RepeatedMoveEndsWithBcZero := by
  intro s t n hn
  obtain ⟨m, rfl, hcount⟩ := iterations_eq hn
  refine ⟨fun h => ?up, fun h => ?down⟩
  case up =>
    have hs := repeated_swept (dir := 1) (fun _ => rfl) m h
    refine ⟨hs.state.trans ?_, hs.trace, hs.mem⟩
    rw [sweptBank_of_count hcount, mul_one]
  case down =>
    have hs := repeated_swept (dir := -1) (fun _ => rfl) m h
    refine ⟨hs.state.trans ?_, hs.trace, hs.mem⟩
    rw [sweptBank_of_count hcount, mul_neg_one, ← sub_eq_add_neg, ← sub_eq_add_neg]

end Sys2Proof.Machine
end
